-- ==== Sys2Proof/Word.lean ====
section
/-! DEFINITION. The bit-vector widths of the block: octets, 16-bit fields, 32-bit registers (R22) and the 41-bit
access word of a host operation (R50). -/

namespace Sys2Proof

/-- An octet: an 8-bit value (R6). -/
abbrev Octet := BitVec 8

/-- A 16-bit field: a frame length, a CRC-16, CFG_MAXLEN. -/
abbrev Half := BitVec 16

/-- A 32-bit register word (R22, R52). -/
abbrev Word := BitVec 32

/-- An access word `WE, OFF[7:0], WDATA[31:0]`, 41 bits with WE at bit 40 (R50). -/
abbrev AccessWord := BitVec 41

end Sys2Proof
end

