-- ==== Sys2Proof/Syntax.lean ====
section
/-! DEFINITION. The operations of the block, one constructor per row of spec/opcode_table.json (R73). -/

namespace Sys2Proof

/-- One host operation the block performs. Operands have the widths of R72, so an operand out of range cannot be
written. A read carries no WDATA: it is ignored (R50). -/
inductive Instr where
  | nop                               -- NOP, R190
  | crc16Init                         -- CRC16.INIT, R102
  | crc16Feed (d : Octet)             -- CRC16.FEED, R103
  | crc16Feed4                        -- CRC16.FEED4, R104
  | crc32Init                         -- CRC32.INIT, R122
  | crc32Feed (d : Octet)             -- CRC32.FEED, R123
  | crc32Feed4                        -- CRC32.FEED4, R124
  | rxReset                           -- RX.RESET, R140
  | rxPush (d : Octet)                -- RX.PUSH, R141
  | txStart (id : Octet) (len : Half) -- TX.START, R170
  | txData (d : Octet)                -- TX.DATA, R171
  | txRaw (d : Octet)                 -- TX.RAW, R172
  | txAbort                           -- TX.ABORT, R173
  | clrerr                            -- CLRERR, R191
  | sreset                            -- SRESET, R192
  | wrData (v : Word)                 -- WR DATA, R193
  | wrConfig (v : Word)               -- WR CONFIG, R194
  | rdCmd                             -- RD CMD, R195
  | rdData                            -- RD DATA, R196
  | rdConfig                          -- RD CONFIG, R197
  | rdStatus                          -- RD STATUS, R198
  | rdCrc16                           -- RD CRC16, R199
  | rdCrc32                           -- RD CRC32, R200
  | rdCrc32Result                     -- RD CRC32_RESULT, R201
  | rdRxHdr                           -- RD RX_HDR, R202
  | rdRxChk                           -- RD RX_CHK, R203
  | rdRxCnt                           -- RD RX_CNT, R204
  | rdRxResult                        -- RD RX_RESULT, R205
  | rdTxInfo                          -- RD TX_INFO, R206
  | rdRxPos                           -- RD RX_POS, R207
  | rdRxPstart                        -- RD RX_PSTART, R208
  deriving DecidableEq, Repr

end Sys2Proof
end

