-- ==== Sys2Proof/Assembly.lean ====
section
/-! DEFINITION. The statements of the assembler syntax (R77) and the pseudo-instructions (R78), as terms. Operands are
numbers here, because the assembler checks their ranges: an operand out of range is an assembly error (R77). Their text is
in Machine/AsmText.lean. -/

namespace Sys2Proof

/-- The format-N mnemonics: written alone (R71, R77). -/
inductive OpN where
  | nop | crc16Init | crc16Feed4 | crc32Init | crc32Feed4 | rxReset | txAbort | clrerr | sreset
  deriving DecidableEq, Repr

/-- The format-B mnemonics: written with one octet (R71, R77). -/
inductive OpB where
  | crc16Feed | crc32Feed | rxPush | txData | txRaw
  deriving DecidableEq, Repr

/-- The names of the fourteen registers (R22). -/
inductive RegName where
  | cmd | data | config | status | crc16 | crc32 | crc32Result
  | rxHdr | rxChk | rxCnt | rxResult | txInfo | rxPos | rxPstart
  deriving DecidableEq, Repr

/-- An assembler statement (R77) or a pseudo-instruction (R78). -/
inductive Stmt where
  | opN (op : OpN)
  | opB (op : OpB) (o : Nat)
  | txStart (id len : Nat)
  | wrData (v : Nat)
  | wrConfig (v : Nat)
  | rd (r : RegName)
  | crc16Bytes (os : List Nat)
  | crc32Bytes (os : List Nat)
  | crc16Of (os : List Nat)
  | crc32Of (os : List Nat)
  | rxBytes (os : List Nat)
  | txFrame (id : Nat) (os : List Nat)
  | txBytes (os : List Nat)
  | cfg (skip maxlen : Nat)
  deriving DecidableEq, Repr

end Sys2Proof
end

