-- ==== Sys2Proof/WellFormed.lean ====
section
/-! DEFINITION. What is well formed. An Instr always is: each operand has exactly its encoded width and every value of
it is legal (R72). The checks are the assembler's, on the ranges of R77 and the payload bound of R78. -/

namespace Sys2Proof

/-- Every operation is encodable: no operand value is excluded (R72, "Every value is legal"; R194). -/
def Instr.wf (_ : Instr) : Bool := true

/-- An octet operand is 0..255 (R77). -/
def octetOk (o : Nat) : Bool := o < 2 ^ 8

/-- A length operand is 0..65535 (R77). -/
def halfOk (n : Nat) : Bool := n < 2 ^ 16

/-- A register value is 0..0xFFFFFFFF (R77). -/
def wordOk (v : Nat) : Bool := v < 2 ^ 32

/-- A statement the assembler accepts: every operand in range (R77), and a TX.FRAME payload of at most 65535 octets
(R78). -/
def Stmt.wf : Stmt → Bool
  | .opN _ => true
  | .opB _ o => octetOk o
  | .txStart id len => octetOk id && halfOk len
  | .wrData v => wordOk v
  | .wrConfig v => wordOk v
  | .rd _ => true
  | .crc16Bytes os => os.all octetOk
  | .crc32Bytes os => os.all octetOk
  | .crc16Of os => os.all octetOk
  | .crc32Of os => os.all octetOk
  | .rxBytes os => os.all octetOk
  | .txFrame id os => octetOk id && os.all octetOk && halfOk os.length
  | .txBytes os => os.all octetOk
  | .cfg skip maxlen => octetOk skip && halfOk maxlen

end Sys2Proof
end

