-- ==== Sys2Proof/Decode.lean ====
section
/-! DEFINITION. Decoding an access word into an operation or a rejection by name (R70..R76), the encoder, and the rows of
the opcode table. -/

namespace Sys2Proof

/-! ## Fields -/

/-- WE, bit 40: a write (R50). -/
def accWE (a : AccessWord) : Bool := a.getLsbD 40

/-- OFF, bits 39:32 (R50). -/
def accOff (a : AccessWord) : Octet := a.extractLsb' 32 8

/-- WDATA, bits 31:0 (R50). -/
def accData (a : AccessWord) : Word := a.extractLsb' 0 32

/-- OP, bits 7:0 of a command word (R71). -/
def cmdOp (w : Word) : Octet := w.extractLsb' 0 8

/-- D, bits 15:8 of a format-B command word (R72). -/
def cmdD (w : Word) : Octet := w.extractLsb' 8 8

/-- ID, bits 15:8 of a format-H command word (R72). -/
def cmdId (w : Word) : Octet := w.extractLsb' 8 8

/-- LEN, bits 31:16 of a format-H command word (R72). -/
def cmdLen (w : Word) : Half := w.extractLsb' 16 16

/-! ## Decoding -/

/-- Why an access is no operation. `misaligned`, `unmappedRead` and `unwritable` are BAD_ACCESS (R231); `undefinedOp` and
`reservedBits` are ILLEGAL_CMD (R233). -/
inductive Reject where
  /-- OFF[1:0] is not 0 (R53). -/
  | misaligned
  /-- A read of an aligned offset above 0x34 (R58). -/
  | unmappedRead
  /-- A write to a read-only or unmapped offset (R56). -/
  | unwritable
  /-- OP is none of the fifteen opcodes (R75). -/
  | undefinedOp
  /-- A reserved bit of a format-N or format-B command word is set (R75). -/
  | reservedBits
  deriving DecidableEq, Repr

/-- The formats of a command word (R71). -/
inductive Format where
  | N | B | H
  deriving DecidableEq, Repr

/-- The reserved bits of a command word are 0: bits 31:8 in format N, bits 31:16 in format B, none in format H (R71). -/
def reservedClear (f : Format) (w : Word) : Bool :=
  match f with
  | .N => w.extractLsb' 8 24 == 0#24
  | .B => w.extractLsb' 16 16 == 0#16
  | .H => true

/-- The opcode map: the format of an OP and the operation its command word stands for (R73). -/
def cmdRow (op : Octet) : Option (Format × (Word → Instr)) :=
  match op.toNat with
  | 0x00 => some (.N, fun _ => .nop)
  | 0x01 => some (.N, fun _ => .crc16Init)
  | 0x02 => some (.B, fun w => .crc16Feed (cmdD w))
  | 0x03 => some (.N, fun _ => .crc16Feed4)
  | 0x11 => some (.N, fun _ => .crc32Init)
  | 0x12 => some (.B, fun w => .crc32Feed (cmdD w))
  | 0x13 => some (.N, fun _ => .crc32Feed4)
  | 0x20 => some (.N, fun _ => .rxReset)
  | 0x21 => some (.B, fun w => .rxPush (cmdD w))
  | 0x30 => some (.H, fun w => .txStart (cmdId w) (cmdLen w))
  | 0x31 => some (.B, fun w => .txData (cmdD w))
  | 0x32 => some (.B, fun w => .txRaw (cmdD w))
  | 0x33 => some (.N, fun _ => .txAbort)
  | 0xF0 => some (.N, fun _ => .clrerr)
  | 0xFF => some (.N, fun _ => .sreset)
  | _ => none

/-- ExecCmd's checks, in order: OP in the map, then the reserved bits (R74). -/
def decodeCmd (w : Word) : Except Reject Instr :=
  match cmdRow (cmdOp w) with
  | none => .error .undefinedOp
  | some (f, mk) => if reservedClear f w then .ok (mk w) else .error .reservedBits

/-- The register a read at an offset names (R73, R22). -/
def readRow (off : Octet) : Option Instr :=
  match off.toNat with
  | 0x00 => some .rdCmd
  | 0x04 => some .rdData
  | 0x08 => some .rdConfig
  | 0x0C => some .rdStatus
  | 0x10 => some .rdCrc16
  | 0x14 => some .rdCrc32
  | 0x18 => some .rdCrc32Result
  | 0x1C => some .rdRxHdr
  | 0x20 => some .rdRxChk
  | 0x24 => some .rdRxCnt
  | 0x28 => some .rdRxResult
  | 0x2C => some .rdTxInfo
  | 0x30 => some .rdRxPos
  | 0x34 => some .rdRxPstart
  | _ => none

/-- An aligned read: a mapped register or a rejection (R74). -/
def decodeRead (off : Octet) : Except Reject Instr :=
  match readRow off with
  | some i => .ok i
  | none => .error .unmappedRead

/-- An aligned write: a command, one of the two writable registers, or a rejection (R74). -/
def decodeWrite (off : Octet) (w : Word) : Except Reject Instr :=
  match off.toNat with
  | 0x00 => decodeCmd w
  | 0x04 => .ok (.wrData w)
  | 0x08 => .ok (.wrConfig w)
  | _ => .error .unwritable

/-- OFF[1:0] = 0 (R53). -/
def aligned (off : Octet) : Bool := off.extractLsb' 0 2 == 0#2

/-- Decoding an access word: total, the checks in the order of R74. -/
def decode (a : AccessWord) : Except Reject Instr :=
  if aligned (accOff a) then
    if accWE a then decodeWrite (accOff a) (accData a) else decodeRead (accOff a)
  else .error .misaligned

/-- The operation the decoder reads from the bits `w` of an opcode-table row of `nbits` bits: an access word has 41 bits,
so a number with a bit above bit 40 is none (log 9). -/
def decodeTableWord (nbits w : Nat) : Option Instr :=
  let bits := w % 2 ^ nbits
  if bits < 2 ^ 41 then (decode (BitVec.ofNat 41 bits)).toOption else none

/-! ## Encoding -/

/-- A write access of `w` at `off` (R70). -/
def accWrite (off : Octet) (w : Word) : AccessWord := 1#1 ++ off ++ w

/-- A read access at `off`; WDATA is a don't-care and encoded as 0 (R70, log 9). -/
def accRead (off : Octet) : AccessWord := 0#1 ++ off ++ 0#32

/-- A format-N command: OP alone (R71). -/
def wordN (op : Octet) : Word := 0#24 ++ op

/-- A format-B command: D over OP (R71). -/
def wordB (d op : Octet) : Word := 0#16 ++ d ++ op

/-- A format-H command: LEN over ID over OP (R71). -/
def wordH (len : Half) (id op : Octet) : Word := len ++ id ++ op

/-- A command: a write of its word to CMD (R70). -/
def accCmd (w : Word) : AccessWord := accWrite 0x00#8 w

/-- The access word of an operation (R70, R71, R73). -/
def encode : Instr → AccessWord
  | .nop => accCmd (wordN 0x00#8)
  | .crc16Init => accCmd (wordN 0x01#8)
  | .crc16Feed d => accCmd (wordB d 0x02#8)
  | .crc16Feed4 => accCmd (wordN 0x03#8)
  | .crc32Init => accCmd (wordN 0x11#8)
  | .crc32Feed d => accCmd (wordB d 0x12#8)
  | .crc32Feed4 => accCmd (wordN 0x13#8)
  | .rxReset => accCmd (wordN 0x20#8)
  | .rxPush d => accCmd (wordB d 0x21#8)
  | .txStart id len => accCmd (wordH len id 0x30#8)
  | .txData d => accCmd (wordB d 0x31#8)
  | .txRaw d => accCmd (wordB d 0x32#8)
  | .txAbort => accCmd (wordN 0x33#8)
  | .clrerr => accCmd (wordN 0xF0#8)
  | .sreset => accCmd (wordN 0xFF#8)
  | .wrData v => accWrite 0x04#8 v
  | .wrConfig v => accWrite 0x08#8 v
  | .rdCmd => accRead 0x00#8
  | .rdData => accRead 0x04#8
  | .rdConfig => accRead 0x08#8
  | .rdStatus => accRead 0x0C#8
  | .rdCrc16 => accRead 0x10#8
  | .rdCrc32 => accRead 0x14#8
  | .rdCrc32Result => accRead 0x18#8
  | .rdRxHdr => accRead 0x1C#8
  | .rdRxChk => accRead 0x20#8
  | .rdRxCnt => accRead 0x24#8
  | .rdRxResult => accRead 0x28#8
  | .rdTxInfo => accRead 0x2C#8
  | .rdRxPos => accRead 0x30#8
  | .rdRxPstart => accRead 0x34#8

/-! ## The opcode table -/

/-- The (mask, match) pair of an operation's row, copied from spec/opcode_table.json. The decoder and the encoder do not
use it; statements compare them with it. -/
def tableRow : Instr → AccessWord × AccessWord
  | .nop => (0x1FFFFFFFFFF#41, 0x10000000000#41)
  | .crc16Init => (0x1FFFFFFFFFF#41, 0x10000000001#41)
  | .crc16Feed _ => (0x1FFFFFF00FF#41, 0x10000000002#41)
  | .crc16Feed4 => (0x1FFFFFFFFFF#41, 0x10000000003#41)
  | .crc32Init => (0x1FFFFFFFFFF#41, 0x10000000011#41)
  | .crc32Feed _ => (0x1FFFFFF00FF#41, 0x10000000012#41)
  | .crc32Feed4 => (0x1FFFFFFFFFF#41, 0x10000000013#41)
  | .rxReset => (0x1FFFFFFFFFF#41, 0x10000000020#41)
  | .rxPush _ => (0x1FFFFFF00FF#41, 0x10000000021#41)
  | .txStart _ _ => (0x1FF000000FF#41, 0x10000000030#41)
  | .txData _ => (0x1FFFFFF00FF#41, 0x10000000031#41)
  | .txRaw _ => (0x1FFFFFF00FF#41, 0x10000000032#41)
  | .txAbort => (0x1FFFFFFFFFF#41, 0x10000000033#41)
  | .clrerr => (0x1FFFFFFFFFF#41, 0x100000000F0#41)
  | .sreset => (0x1FFFFFFFFFF#41, 0x100000000FF#41)
  | .wrData _ => (0x1FF00000000#41, 0x10400000000#41)
  | .wrConfig _ => (0x1FF00000000#41, 0x10800000000#41)
  | .rdCmd => (0x1FF00000000#41, 0x00000000000#41)
  | .rdData => (0x1FF00000000#41, 0x00400000000#41)
  | .rdConfig => (0x1FF00000000#41, 0x00800000000#41)
  | .rdStatus => (0x1FF00000000#41, 0x00C00000000#41)
  | .rdCrc16 => (0x1FF00000000#41, 0x01000000000#41)
  | .rdCrc32 => (0x1FF00000000#41, 0x01400000000#41)
  | .rdCrc32Result => (0x1FF00000000#41, 0x01800000000#41)
  | .rdRxHdr => (0x1FF00000000#41, 0x01C00000000#41)
  | .rdRxChk => (0x1FF00000000#41, 0x02000000000#41)
  | .rdRxCnt => (0x1FF00000000#41, 0x02400000000#41)
  | .rdRxResult => (0x1FF00000000#41, 0x02800000000#41)
  | .rdTxInfo => (0x1FF00000000#41, 0x02C00000000#41)
  | .rdRxPos => (0x1FF00000000#41, 0x03000000000#41)
  | .rdRxPstart => (0x1FF00000000#41, 0x03400000000#41)

/-- An access word is one of an operation's row. -/
def matchesRow (a : AccessWord) (i : Instr) : Prop := a &&& (tableRow i).1 = (tableRow i).2

end Sys2Proof
end

