-- ==== Sys2Proof/Config.lean ====
section
/-! DEFINITION. What the spec fixes for the block (the parameter table R5).

Two named parameters of the spec have no constant here. BLOCK_BASE (R58) is the platform's: the model addresses the
block by offset only (log 10). TX_SINK_READY is fixed to true in the model by R266: the sink takes every octet a command
emits, so no definition asks for it (log 4). No free value is needed (INVENTORY.md). -/

namespace Sys2Proof.Config

/-- The marker octet that opens a frame (R5, R9). -/
def sync : Octet := 0x02#8

/-- The CRC-16 polynomial, MSB-first (R5, R100). UNVERIFIED bit-loop reading: log 16. -/
def crc16Poly : Half := 0x1021#16

/-- The CRC-16 initial value (R5, R101). -/
def crc16Seed : Half := 0xFFFF#16

/-- The reflected IEEE 802.3 polynomial (R5, R120). UNVERIFIED by the source, the spec's D28: log 16. -/
def crc32Poly : Word := 0xEDB88320#32

/-- The CRC-32 initial value (R5, R121). -/
def crc32Seed : Word := 0xFFFFFFFF#32

/-- The CRC-32 final XOR (R5, R121). -/
def crc32FinalXor : Word := 0xFFFFFFFF#32

/-- The reset value of CONFIG.MAXLEN: every length is accepted (R5, R24). -/
def maxlenReset : Half := 0xFFFF#16

end Sys2Proof.Config
end

