-- ==== Sys2Proof/Machine/Crc.lean ====
section
/-! DEFINITION. The two CRC algorithms: the CRC-16 of R100, R101 and the CRC-32 of R120, R121. -/

namespace Sys2Proof.Machine

/-! ## CRC-16 -/

/-- One bit of the CRC-16 loop: bit 15 is tested before the shift (R100). -/
def bit16 (c : Half) : Half := if c.getLsbD 15 then (c <<< 1) ^^^ Config.crc16Poly else c <<< 1

/-- step16, the CRC-16 one-octet update (R100). -/
def step16 (c : Half) (o : Octet) : Half := Nat.repeat bit16 8 (c ^^^ (o.setWidth 16 <<< 8))

/-- crc16 of an octet sequence from a seed (R101). -/
def crc16From (seed : Half) (os : List Octet) : Half := os.foldl step16 seed

/-- crc16 from the default seed 0xFFFF, with no final XOR (R101). -/
def crc16Of (os : List Octet) : Half := crc16From Config.crc16Seed os

/-- T16, the table of the CRC-16 (R105). -/
def t16 (n : Octet) : Half := step16 0x0000#16 n

/-! ## CRC-32 -/

/-- One bit of the CRC-32 loop, reflected: bit 0 is tested before the shift (R120). -/
def bit32 (c : Word) : Word := if c.getLsbD 0 then (c >>> 1) ^^^ Config.crc32Poly else c >>> 1

/-- T32, the table of the CRC-32, by its generator (R120). -/
def t32 (n : Octet) : Word := Nat.repeat bit32 8 (n.setWidth 32)

/-- step32, the CRC-32 one-octet update in its table form (R120). -/
def step32 (c : Word) (o : Octet) : Word := t32 (c.extractLsb' 0 8 ^^^ o) ^^^ (c >>> 8)

/-- The raw register after an octet sequence, from a raw value (R121, R125). -/
def raw32From (c : Word) (os : List Octet) : Word := os.foldl step32 c

/-- raw32 of an octet sequence from the seed (R121). -/
def raw32Of (os : List Octet) : Word := raw32From Config.crc32Seed os

/-- The finished value of a raw register: the final XOR (R27, R121). -/
def finish32 (c : Word) : Word := c ^^^ Config.crc32FinalXor

/-- crc32 of an octet sequence (R121). -/
def crc32Of (os : List Octet) : Word := finish32 (raw32Of os)

end Sys2Proof.Machine
end

