-- ==== Sys2Proof/Machine/State.lean ====
section
/-! DEFINITION. The state of the block: the elements of R20, its output TXOUT (R36), the RDATA it has returned (R269) and
the host operations it has still to perform (log 1); the reasons a step can stop; the state after reset. -/

namespace Sys2Proof.Machine

/-- RX_ST, the receive framer's state (R28). Codes 9..15 are never produced and not represented (I12, log 6). -/
inductive RxSt where
  | skip | hunt | cmd | lenLo | lenHi | payload | crcLo | crcHi | done
  deriving DecidableEq, Repr

/-- RX_CLASS, the role of the octet taken last (R29). Codes 12..15 are never produced and not represented (I13, log 6). -/
inductive RxClass where
  | none | skipped | discard | sync | cmdid | lenLo | lenHi | payload | crcLo | crcHi | trail | lenRej
  deriving DecidableEq, Repr

/-- ERRCODE (R230). Codes 4..15 are never produced and not represented (I14, log 6). -/
inductive ErrCode where
  | none | illegalCmd | txSeq | badAccess
  deriving DecidableEq, Repr

/-- What stops the machine with a fault: nothing. "An error does not stop the block" (R232); an error is a next state. -/
inductive Fault where
  deriving DecidableEq, Repr

/-- Why an operation has no meaning. -/
inductive Refusal where
  /-- Raised by exec's arm of an operation whose meaning is not written yet; safe. No arm raises it now. -/
  | notModelled (mnemonic : String)
  deriving DecidableEq, Repr

/-- The state. The first 23 fields are the rows of R20, in its order. -/
structure State where
  /-- DATA, the operand register (R23). -/
  data : Word
  /-- CFG_SKIP, CONFIG[7:0] (R24). -/
  cfgSkip : Octet
  /-- CFG_MAXLEN, CONFIG[31:16] (R24). -/
  cfgMaxlen : Half
  /-- CRC16, the standalone CRC-16 accumulator (R26). -/
  crc16 : Half
  /-- CRC32, the standalone raw CRC-32 accumulator (R27). -/
  crc32 : Word
  /-- ERR (R37). -/
  err : Bool
  /-- ERRCODE (R37). -/
  errcode : ErrCode
  /-- RX_ST (R28). -/
  rxSt : RxSt
  /-- RX_SKIPREM, envelope octets still to discard (R30). -/
  rxSkiprem : Octet
  /-- RX_CMDID (R30). -/
  rxCmdid : Octet
  /-- RX_LEN (R30). -/
  rxLen : Half
  /-- RX_PCOUNT, payload octets taken (R30). -/
  rxPcount : Half
  /-- RX_CRC_RECV, the checksum received (R30). -/
  rxCrcRecv : Half
  /-- RXCRC, the receive framer's accumulator (R30). -/
  rxCrc : Half
  /-- RX_MATCH (R30, R38). -/
  rxMatch : Bool
  /-- RX_LENERR, sticky (R30, R38). -/
  rxLenerr : Bool
  /-- RX_CLASS (R29). -/
  rxClass : RxClass
  /-- RX_LAST, the octet pushed last (R30). -/
  rxLast : Octet
  /-- RX_POS, octets pushed, mod 2^32 (R30). -/
  rxPos : Word
  /-- RX_PSTART, position of the first payload octet (R30). -/
  rxPstart : Word
  /-- TX_BUSY (R35, R38). -/
  txBusy : Bool
  /-- TX_REM, payload octets still expected (R35). -/
  txRem : Half
  /-- TXCRC, the transmit framer's accumulator (R35). -/
  txCrc : Half
  /-- TXOUT: the octets emitted since power-on, in order (R36). Output, not an element of R20. -/
  txout : List Octet
  /-- The RDATA of each read, in order (R50, R269). An observation, not an element of R20. DESIGN CHOICE: log 3. -/
  rdata : List Word
  /-- The model's own: host operations supplied and not yet performed, the next first. DESIGN CHOICE: log 1. -/
  pending : List AccessWord
  deriving DecidableEq, Repr

/-- The state right after power-on reset (R20, R260): every element at its reset value, nothing emitted, nothing read,
and no operation supplied by the host (log 1). -/
def State.reset : State where
  data := 0x00000000#32
  cfgSkip := 0x00#8
  cfgMaxlen := Config.maxlenReset
  crc16 := Config.crc16Seed
  crc32 := Config.crc32Seed
  err := false
  errcode := .none
  rxSt := .hunt
  rxSkiprem := 0x00#8
  rxCmdid := 0x00#8
  rxLen := 0x0000#16
  rxPcount := 0x0000#16
  rxCrcRecv := 0x0000#16
  rxCrc := Config.crc16Seed
  rxMatch := false
  rxLenerr := false
  rxClass := .none
  rxLast := 0x00#8
  rxPos := 0x00000000#32
  rxPstart := 0x00000000#32
  txBusy := false
  txRem := 0x0000#16
  txCrc := Config.crc16Seed
  txout := []
  rdata := []
  pending := []

end Sys2Proof.Machine
end

