-- ==== Sys2Proof/Machine/Operands.lean ====
section
/-! DEFINITION. Operand forms and fields: the octets of DATA and of the frame fields, the fields of CONFIG, the codes of
the enumerated elements, and the register offsets of R22. -/

namespace Sys2Proof.Machine

/-! ## Octets of words -/

/-- v[7:0] of a 16-bit field (R54). -/
def lo8 (v : Half) : Octet := v.extractLsb' 0 8

/-- v[15:8] of a 16-bit field (R54). -/
def hi8 (v : Half) : Octet := v.extractLsb' 8 8

/-- A 16-bit field from its octets, low octet first in the stream: `hi, lo` concatenated (R54, R146, R149). -/
def half (hi lo : Octet) : Half := hi ++ lo

/-- The four octets of a register word in FEED4's order, low octet first (R23, R55). -/
def octets (w : Word) : List Octet :=
  [w.extractLsb' 0 8, w.extractLsb' 8 8, w.extractLsb' 16 8, w.extractLsb' 24 8]

/-- Four consecutive octets packed into a register word, the first lowest (R55). -/
def pack (b0 b1 b2 b3 : Octet) : Word := b3 ++ b2 ++ b1 ++ b0

/-! ## CONFIG -/

/-- CONFIG.SKIP, bits 7:0 (R24). -/
def skipField (w : Word) : Octet := w.extractLsb' 0 8

/-- CONFIG.MAXLEN, bits 31:16 (R24). -/
def maxlenField (w : Word) : Half := w.extractLsb' 16 16

/-! ## Codes -/

/-- The code of RX_ST (R28). -/
def RxSt.code : RxSt → BitVec 4
  | .skip => 0
  | .hunt => 1
  | .cmd => 2
  | .lenLo => 3
  | .lenHi => 4
  | .payload => 5
  | .crcLo => 6
  | .crcHi => 7
  | .done => 8

/-- The code of RX_CLASS (R29). -/
def RxClass.code : RxClass → BitVec 4
  | .none => 0
  | .skipped => 1
  | .discard => 2
  | .sync => 3
  | .cmdid => 4
  | .lenLo => 5
  | .lenHi => 6
  | .payload => 7
  | .crcLo => 8
  | .crcHi => 9
  | .trail => 10
  | .lenRej => 11

/-- The code of ERRCODE (R230). -/
def ErrCode.code : ErrCode → BitVec 4
  | .none => 0
  | .illegalCmd => 1
  | .txSeq => 2
  | .badAccess => 3

/-! ## Registers -/

/-- The byte offset of a register in the window (R22). -/
def offset : RegName → Octet
  | .cmd => 0x00
  | .data => 0x04
  | .config => 0x08
  | .status => 0x0C
  | .crc16 => 0x10
  | .crc32 => 0x14
  | .crc32Result => 0x18
  | .rxHdr => 0x1C
  | .rxChk => 0x20
  | .rxCnt => 0x24
  | .rxResult => 0x28
  | .txInfo => 0x2C
  | .rxPos => 0x30
  | .rxPstart => 0x34

end Sys2Proof.Machine
end

