-- ==== Sys2Proof/Machine/Flags.lean ====
section
/-! DEFINITION. The flags of R38 and the STATUS register that shows them (R25). There are no arithmetic condition
codes. -/

namespace Sys2Proof.Machine

/-- ERRCODE after `raise e`: the first error since the last clear is kept (R37, R232). -/
def firstError (s : State) (e : ErrCode) : ErrCode := if s.err then s.errcode else e

/-- RX_MATCH at CRCHI: the checksum received equals the one computed (R149). -/
def checksumsAgree (recv computed : Half) : Bool := recv == computed

/-- A length is rejected when it is greater than CFG_MAXLEN, unsigned (R146). -/
def lengthRejected (len maxlen : Half) : Bool := maxlen.ult len

/-- A 1-bit flag as a bit of a register. -/
def flagBit (b : Bool) : BitVec 1 := BitVec.ofBool b

/-- STATUS: ERR, 3 zeros, ERRCODE, 14 zeros, RX_LENERR, RX_MATCH, 3 zeros, TX_BUSY, RX_ST (R25, R198). -/
def statusImage (s : State) : Word :=
  flagBit s.err ++ 0#3 ++ s.errcode.code ++ 0#14 ++ flagBit s.rxLenerr ++ flagBit s.rxMatch ++ 0#3
    ++ flagBit s.txBusy ++ s.rxSt.code

end Sys2Proof.Machine
end

