-- ==== Sys2Proof/Machine/Ops.lean ====
section
/-! DEFINITION. The shared operations: raising an error (the block's only exception, R232) and clearing it (R239),
emitting octets (R36), returning RDATA (R50), the reset of every element (R260), the register images (R22), and taking
the next host operation (R50). -/

namespace Sys2Proof.Machine

/-! ## Errors -/

/-- `raise E` (R232): ERR is set, ERRCODE takes E only if ERR was 0, nothing else changes. There is no saved state, mode
change or control transfer (R238). -/
def State.raise (s : State) (e : ErrCode) : State := { s with err := true, errcode := firstError s e }

/-- Clearing the error record, the return from an error (R191, R239). -/
def State.clearError (s : State) : State := { s with err := false, errcode := .none }

/-! ## Output -/

/-- Appending octets to TXOUT in order (R36). The sink is always ready (R266, log 4). -/
def State.emit (s : State) (os : List Octet) : State := { s with txout := s.txout ++ os }

/-- A read returns one RDATA (R50, R269; log 3). -/
def State.returnRead (s : State) (v : Word) : State := { s with rdata := s.rdata ++ [v] }

/-! ## Reset -/

/-- Every element of R20 takes its reset value (R192, R260). TXOUT is untouched (R36), and so are the RDATA already
returned and the host's operations, which are not elements. -/
def State.resetElements (s : State) : State :=
  { State.reset with txout := s.txout, rdata := s.rdata, pending := s.pending }

/-! ## The register window -/

/-- What a read of a register returns (R22, R195..R208). -/
def image (s : State) : RegName → Word
  | .cmd => 0x00000000#32
  | .data => s.data
  | .config => s.cfgMaxlen ++ 0x00#8 ++ s.cfgSkip
  | .status => statusImage s
  | .crc16 => s.crc16.setWidth 32
  | .crc32 => s.crc32
  | .crc32Result => finish32 s.crc32
  | .rxHdr => s.rxLen ++ 0x00#8 ++ s.rxCmdid
  | .rxChk => s.rxCrc ++ s.rxCrcRecv
  | .rxCnt => 0x00#8 ++ s.rxSkiprem ++ s.rxPcount
  | .rxResult => 0x0000#16 ++ s.rxLast ++ 0x0#4 ++ s.rxClass.code
  | .txInfo => s.txCrc ++ s.txRem
  | .rxPos => s.rxPos
  | .rxPstart => s.rxPstart

/-- A read of a mapped register: its image, and no other effect (R56, R209). -/
def State.readReg (s : State) (r : RegName) : State := s.returnRead (image s r)

/-! ## Host operations -/

/-- The host supplies one operation, to be performed next. -/
def State.present (s : State) (a : AccessWord) : State := { s with pending := a :: s.pending }

/-- The next host operation and the state without it, or none while the host supplies none (R50, log 1). -/
def State.fetch (s : State) : Option (AccessWord × State) :=
  match s.pending with
  | [] => none
  | a :: rest => some (a, { s with pending := rest })

/-- The error a rejected access raises (R231, R233). -/
def rejectCode : Reject → ErrCode
  | .misaligned => .badAccess
  | .unmappedRead => .badAccess
  | .unwritable => .badAccess
  | .undefinedOp => .illegalCmd
  | .reservedBits => .illegalCmd

/-- A rejected access: it raises its error, and a read returns 0 (R53, R74, R232). -/
def State.reject (s : State) (a : AccessWord) (r : Reject) : State :=
  if accWE a then s.raise (rejectCode r) else (s.returnRead 0x00000000#32).raise (rejectCode r)

end Sys2Proof.Machine
end

