-- ==== Sys2Proof/Machine/Control.lean ====
section
/-! DEFINITION. The control commands and the register writes (spec/44_bus_control.md, R190..R194). -/

namespace Sys2Proof.Machine

/-- NOP: no effect (R190). -/
def execNop (s : State) : Host.Outcome State Fault Refusal := .next s

/-- CLRERR: `ERR <- 0; ERRCODE <- 0` (R191). -/
def execClrerr (s : State) : Host.Outcome State Fault Refusal := .next s.clearError

/-- SRESET: every element takes its reset value; TXOUT stays (R192). -/
def execSreset (s : State) : Host.Outcome State Fault Refusal := .next s.resetElements

/-- WR DATA, v: `DATA <- v` (R193). -/
def execWrData (v : Word) (s : State) : Host.Outcome State Fault Refusal := .next { s with data := v }

/-- WR CONFIG, v: SKIP from bits 7:0, MAXLEN from bits 31:16, bits 15:8 ignored (R194). RX_SKIPREM is not reloaded. -/
def execWrConfig (v : Word) (s : State) : Host.Outcome State Fault Refusal :=
  .next { s with cfgSkip := skipField v, cfgMaxlen := maxlenField v }

end Sys2Proof.Machine
end

