-- ==== Sys2Proof/Machine/Crc16.lean ====
section
/-! DEFINITION. The CRC-16 engine's commands (spec/40_crc16.md). -/

namespace Sys2Proof.Machine

/-- CRC16.INIT: `CRC16 <- 0xFFFF` (R102). -/
def execCrc16Init (s : State) : Host.Outcome State Fault Refusal := .next { s with crc16 := Config.crc16Seed }

/-- CRC16.FEED D: `CRC16 <- step16(CRC16, D)` (R103). -/
def execCrc16Feed (d : Octet) (s : State) : Host.Outcome State Fault Refusal :=
  .next { s with crc16 := step16 s.crc16 d }

/-- CRC16.FEED4: the four octets of DATA, low octet first (R104). -/
def execCrc16Feed4 (s : State) : Host.Outcome State Fault Refusal :=
  .next { s with crc16 := crc16From s.crc16 (octets s.data) }

end Sys2Proof.Machine
end

