-- ==== Sys2Proof/Machine/Crc32.lean ====
section
/-! DEFINITION. The CRC-32 engine's commands (spec/41_crc32.md). -/

namespace Sys2Proof.Machine

/-- CRC32.INIT: `CRC32 <- 0xFFFFFFFF` (R122). -/
def execCrc32Init (s : State) : Host.Outcome State Fault Refusal := .next { s with crc32 := Config.crc32Seed }

/-- CRC32.FEED D: `CRC32 <- step32(CRC32, D)` (R123). -/
def execCrc32Feed (d : Octet) (s : State) : Host.Outcome State Fault Refusal :=
  .next { s with crc32 := step32 s.crc32 d }

/-- CRC32.FEED4: the four octets of DATA, low octet first (R124). -/
def execCrc32Feed4 (s : State) : Host.Outcome State Fault Refusal :=
  .next { s with crc32 := raw32From s.crc32 (octets s.data) }

end Sys2Proof.Machine
end

