-- ==== Sys2Proof/Machine/RegRead.lean ====
section
/-! DEFINITION. The register reads (spec/44_bus_control.md, R195..R209): each returns its register's image and changes no
element. -/

namespace Sys2Proof.Machine

/-- RD CMD: the write-only command register reads 0 (R195). -/
def execRdCmd (s : State) : Host.Outcome State Fault Refusal := .next (s.readReg .cmd)

/-- RD DATA (R196). -/
def execRdData (s : State) : Host.Outcome State Fault Refusal := .next (s.readReg .data)

/-- RD CONFIG (R197). -/
def execRdConfig (s : State) : Host.Outcome State Fault Refusal := .next (s.readReg .config)

/-- RD STATUS (R198). -/
def execRdStatus (s : State) : Host.Outcome State Fault Refusal := .next (s.readReg .status)

/-- RD CRC16 (R199). -/
def execRdCrc16 (s : State) : Host.Outcome State Fault Refusal := .next (s.readReg .crc16)

/-- RD CRC32: the raw accumulator (R200). -/
def execRdCrc32 (s : State) : Host.Outcome State Fault Refusal := .next (s.readReg .crc32)

/-- RD CRC32_RESULT: the finished CRC-32 (R201). -/
def execRdCrc32Result (s : State) : Host.Outcome State Fault Refusal := .next (s.readReg .crc32Result)

/-- RD RX_HDR (R202). -/
def execRdRxHdr (s : State) : Host.Outcome State Fault Refusal := .next (s.readReg .rxHdr)

/-- RD RX_CHK (R203). -/
def execRdRxChk (s : State) : Host.Outcome State Fault Refusal := .next (s.readReg .rxChk)

/-- RD RX_CNT (R204). -/
def execRdRxCnt (s : State) : Host.Outcome State Fault Refusal := .next (s.readReg .rxCnt)

/-- RD RX_RESULT (R205). -/
def execRdRxResult (s : State) : Host.Outcome State Fault Refusal := .next (s.readReg .rxResult)

/-- RD TX_INFO (R206). -/
def execRdTxInfo (s : State) : Host.Outcome State Fault Refusal := .next (s.readReg .txInfo)

/-- RD RX_POS (R207). -/
def execRdRxPos (s : State) : Host.Outcome State Fault Refusal := .next (s.readReg .rxPos)

/-- RD RX_PSTART (R208). -/
def execRdRxPstart (s : State) : Host.Outcome State Fault Refusal := .next (s.readReg .rxPstart)

end Sys2Proof.Machine
end

