-- ==== Sys2Proof/Machine/RxFramer.lean ====
section
/-! DEFINITION. The receive framer (spec/42_framer_rx.md): RX.RESET, and RX.PUSH with one action per RX_ST. -/

namespace Sys2Proof.Machine

/-! ## The state actions of RX.PUSH

Each acts on the state after RX_POS and RX_LAST are written; it names the other elements it writes. -/

/-- SKIP: an envelope octet (R142). -/
def rxInSkip (s : State) : State :=
  let rem := s.rxSkiprem - 1#8
  { s with rxSkiprem := rem, rxClass := .skipped, rxSt := if rem = 0#8 then .hunt else s.rxSt }

/-- HUNT: 0x02 opens a frame, any other octet is discarded (R143). RX_LENERR is not cleared. -/
def rxInHunt (d : Octet) (s : State) : State :=
  if d = Config.sync then
    { s with
      rxCmdid := 0#8, rxLen := 0#16, rxPcount := 0#16, rxCrcRecv := 0#16
      rxCrc := Config.crc16Seed, rxMatch := false, rxPstart := 0#32
      rxSt := .cmd, rxClass := .sync }
  else { s with rxClass := .discard }

/-- CMD: command_id, any octet (R144). -/
def rxInCmd (d : Octet) (s : State) : State :=
  { s with rxCmdid := d, rxCrc := step16 s.rxCrc d, rxSt := .lenLo, rxClass := .cmdid }

/-- LENLO: the length's low octet (R145). -/
def rxInLenLo (d : Octet) (s : State) : State :=
  { s with rxLen := d.setWidth 16, rxCrc := step16 s.rxCrc d, rxSt := .lenHi, rxClass := .lenLo }

/-- LENHI: the length's high octet; the length is rejected or accepted against CFG_MAXLEN, read live (R146, R265). `p` is
the position of this octet. -/
def rxInLenHi (p : Word) (d : Octet) (s : State) : State :=
  let len := half d (lo8 s.rxLen)
  let s' := { s with rxLen := len, rxCrc := step16 s.rxCrc d }
  if lengthRejected len s.cfgMaxlen then
    { s' with rxLenerr := true, rxSt := .hunt, rxClass := .lenRej }
  else
    { s' with rxPstart := p + 1#32, rxSt := if len = 0#16 then .crcLo else .payload, rxClass := .lenHi }

/-- PAYLOAD: a payload octet, and the payload boundary (R147). -/
def rxInPayload (d : Octet) (s : State) : State :=
  let count := s.rxPcount + 1#16
  { s with
    rxCrc := step16 s.rxCrc d, rxPcount := count, rxClass := .payload
    rxSt := if count = s.rxLen then .crcLo else s.rxSt }

/-- CRCLO: the checksum's low octet; RXCRC is not changed (R148). -/
def rxInCrcLo (d : Octet) (s : State) : State :=
  { s with rxCrcRecv := d.setWidth 16, rxSt := .crcHi, rxClass := .crcLo }

/-- CRCHI: the checksum's high octet; the frame is complete whether or not the checksums agree (R149). -/
def rxInCrcHi (d : Octet) (s : State) : State :=
  let recv := half d (lo8 s.rxCrcRecv)
  { s with rxCrcRecv := recv, rxMatch := checksumsAgree recv s.rxCrc, rxSt := .done, rxClass := .crcHi }

/-- DONE: a trailing octet (R150). -/
def rxInDone (s : State) : State := { s with rxClass := .trail }

/-- The action for the current RX_ST; exactly one runs (R141). -/
def rxAction (p : Word) (d : Octet) (s : State) : State :=
  match s.rxSt with
  | .skip => rxInSkip s
  | .hunt => rxInHunt d s
  | .cmd => rxInCmd d s
  | .lenLo => rxInLenLo d s
  | .lenHi => rxInLenHi p d s
  | .payload => rxInPayload d s
  | .crcLo => rxInCrcLo d s
  | .crcHi => rxInCrcHi d s
  | .done => rxInDone s

/-- One octet into the receive framer: its position is RX_POS before the push (R141). -/
def rxTake (d : Octet) (s : State) : State :=
  rxAction s.rxPos d { s with rxPos := s.rxPos + 1#32, rxLast := d }

/-! ## The commands -/

/-- RX.RESET: re-arms the framer, sampling CFG_SKIP (R140). -/
def execRxReset (s : State) : Host.Outcome State Fault Refusal :=
  .next { s with
    rxSkiprem := s.cfgSkip
    rxSt := if s.cfgSkip = 0#8 then .hunt else .skip
    rxCmdid := 0#8, rxLen := 0#16, rxPcount := 0#16, rxCrcRecv := 0#16
    rxCrc := Config.crc16Seed, rxMatch := false, rxLenerr := false
    rxClass := .none, rxLast := 0#8, rxPos := 0#32, rxPstart := 0#32 }

/-- RX.PUSH D (R141). It raises nothing for any data (R236). -/
def execRxPush (d : Octet) (s : State) : Host.Outcome State Fault Refusal := .next (rxTake d s)

end Sys2Proof.Machine
end

