-- ==== Sys2Proof/Machine/TxFramer.lean ====
section
/-! DEFINITION. The transmit framer (spec/43_framer_tx.md): TX.START, TX.DATA, TX.RAW, TX.ABORT. -/

namespace Sys2Proof.Machine

/-- A checksum's octets as the block emits them, low octet first (R54). -/
def checksumOctets (c : Half) : List Octet := [lo8 c, hi8 c]

/-- TXCRC after the header of a frame (R170). -/
def headerCrc (id : Octet) (len : Half) : Half :=
  step16 (step16 (step16 Config.crc16Seed id) (lo8 len)) (hi8 len)

/-- Opening a frame while none is open: the header goes out, and for length 0 the checksum too (R170). -/
def txOpen (id : Octet) (len : Half) (s : State) : State :=
  let c := headerCrc id len
  let s' := { s.emit [Config.sync, id, lo8 len, hi8 len] with txCrc := c, txRem := len }
  if len = 0#16 then { s'.emit (checksumOctets c) with txBusy := false } else { s' with txBusy := true }

/-- A payload octet of an open frame: it goes out, and after the last one the checksum (R171). -/
def txPayload (d : Octet) (s : State) : State :=
  let c := step16 s.txCrc d
  let rem := s.txRem - 1#16
  let s' := { s.emit [d] with txCrc := c, txRem := rem }
  if rem = 0#16 then { s'.emit (checksumOctets c) with txBusy := false } else s'

/-- TX.START ID, LEN: TX_SEQ while a frame is open (R170). -/
def execTxStart (id : Octet) (len : Half) (s : State) : Host.Outcome State Fault Refusal :=
  if s.txBusy then .next (s.raise .txSeq) else .next (txOpen id len s)

/-- TX.DATA D: TX_SEQ while no frame is open (R171). -/
def execTxData (d : Octet) (s : State) : Host.Outcome State Fault Refusal :=
  if s.txBusy then .next (txPayload d s) else .next (s.raise .txSeq)

/-- TX.RAW D: TX_SEQ while a frame is open (R172, R234; R230's table says otherwise: DEDUCED, log 5). -/
def execTxRaw (d : Octet) (s : State) : Host.Outcome State Fault Refusal :=
  if s.txBusy then .next (s.raise .txSeq) else .next (s.emit [d])

/-- TX.ABORT: closes an open frame without its checksum; no error when none is open (R173). -/
def execTxAbort (s : State) : Host.Outcome State Fault Refusal := .next { s with txBusy := false, txRem := 0#16 }

end Sys2Proof.Machine
end

