-- ==== Sys2Proof/Machine/Dispatch.lean ====
section
/-! DEFINITION. What each operation does: one arm per constructor of Instr. -/

namespace Sys2Proof.Machine

/-- The meaning of a decoded operation (R73). -/
def exec (i : Instr) (s : State) : Host.Outcome State Fault Refusal :=
  match i with
  | .nop => Sys2Proof.Machine.execNop s
  | .crc16Init => Sys2Proof.Machine.execCrc16Init s
  | .crc16Feed d => Sys2Proof.Machine.execCrc16Feed d s
  | .crc16Feed4 => Sys2Proof.Machine.execCrc16Feed4 s
  | .crc32Init => Sys2Proof.Machine.execCrc32Init s
  | .crc32Feed d => Sys2Proof.Machine.execCrc32Feed d s
  | .crc32Feed4 => Sys2Proof.Machine.execCrc32Feed4 s
  | .rxReset => Sys2Proof.Machine.execRxReset s
  | .rxPush d => Sys2Proof.Machine.execRxPush d s
  | .txStart id len => Sys2Proof.Machine.execTxStart id len s
  | .txData d => Sys2Proof.Machine.execTxData d s
  | .txRaw d => Sys2Proof.Machine.execTxRaw d s
  | .txAbort => Sys2Proof.Machine.execTxAbort s
  | .clrerr => Sys2Proof.Machine.execClrerr s
  | .sreset => Sys2Proof.Machine.execSreset s
  | .wrData v => Sys2Proof.Machine.execWrData v s
  | .wrConfig v => Sys2Proof.Machine.execWrConfig v s
  | .rdCmd => Sys2Proof.Machine.execRdCmd s
  | .rdData => Sys2Proof.Machine.execRdData s
  | .rdConfig => Sys2Proof.Machine.execRdConfig s
  | .rdStatus => Sys2Proof.Machine.execRdStatus s
  | .rdCrc16 => Sys2Proof.Machine.execRdCrc16 s
  | .rdCrc32 => Sys2Proof.Machine.execRdCrc32 s
  | .rdCrc32Result => Sys2Proof.Machine.execRdCrc32Result s
  | .rdRxHdr => Sys2Proof.Machine.execRdRxHdr s
  | .rdRxChk => Sys2Proof.Machine.execRdRxChk s
  | .rdRxCnt => Sys2Proof.Machine.execRdRxCnt s
  | .rdRxResult => Sys2Proof.Machine.execRdRxResult s
  | .rdTxInfo => Sys2Proof.Machine.execRdTxInfo s
  | .rdRxPos => Sys2Proof.Machine.execRdRxPos s
  | .rdRxPstart => Sys2Proof.Machine.execRdRxPstart s

end Sys2Proof.Machine
end

