-- ==== Sys2Proof/Machine/Access.lean ====
section
/-! DEFINITION. Performing one host operation (R74): decode, then the operation's meaning or the rejection's error. -/

namespace Sys2Proof.Machine

/-- One access performed on a state (R74, R235). -/
def perform (a : AccessWord) (s : State) : Host.Outcome State Fault Refusal :=
  match decode a with
  | .ok i => exec i s
  | .error r => .next (s.reject a r)

end Sys2Proof.Machine
end

