-- ==== Sys2Proof/Machine/Step.lean ====
section
/-! DEFINITION. One step: the next host operation is taken and performed whole (R8, R50). -/

namespace Sys2Proof.Machine

/-- One step. While the host supplies no operation, nothing changes (R8, R246; log 2). -/
def step (s : State) : Host.Outcome State Fault Refusal :=
  match s.fetch with
  | none => .next s
  | some (a, s') => perform a s'

/-- The host supplies the operation with bits `w` next (log 1). -/
def State.withFetchWord (s : State) (nbits w : Nat) : State := s.present (BitVec.ofNat 41 (w % 2 ^ nbits))

end Sys2Proof.Machine
end

