-- ==== Sys2Proof/Machine/Asm.lean ====
section
/-! DEFINITION. The assembler (R77, R78): the operations a statement stands for, and its access words. -/

namespace Sys2Proof.Machine

/-- The operation of a format-N mnemonic (R73). -/
def instrN : OpN → Instr
  | .nop => .nop
  | .crc16Init => .crc16Init
  | .crc16Feed4 => .crc16Feed4
  | .crc32Init => .crc32Init
  | .crc32Feed4 => .crc32Feed4
  | .rxReset => .rxReset
  | .txAbort => .txAbort
  | .clrerr => .clrerr
  | .sreset => .sreset

/-- The operation of a format-B mnemonic (R73). -/
def instrB : OpB → Octet → Instr
  | .crc16Feed, d => .crc16Feed d
  | .crc32Feed, d => .crc32Feed d
  | .rxPush, d => .rxPush d
  | .txData, d => .txData d
  | .txRaw, d => .txRaw d

/-- The read of a register (R73). -/
def instrRd : RegName → Instr
  | .cmd => .rdCmd
  | .data => .rdData
  | .config => .rdConfig
  | .status => .rdStatus
  | .crc16 => .rdCrc16
  | .crc32 => .rdCrc32
  | .crc32Result => .rdCrc32Result
  | .rxHdr => .rdRxHdr
  | .rxChk => .rdRxChk
  | .rxCnt => .rdRxCnt
  | .rxResult => .rdRxResult
  | .txInfo => .rdTxInfo
  | .rxPos => .rdRxPos
  | .rxPstart => .rdRxPstart

/-- Octets fed to an engine: each full group of four through DATA and FEED4, the rest by FEED (R78). -/
def feedBytes (feed4 : Instr) (feed : Octet → Instr) : List Octet → List Instr
  | b0 :: b1 :: b2 :: b3 :: rest => .wrData (pack b0 b1 b2 b3) :: feed4 :: feedBytes feed4 feed rest
  | os => os.map feed

/-- CRC16.BYTES (R78). -/
def crc16Bytes (os : List Octet) : List Instr := feedBytes .crc16Feed4 .crc16Feed os

/-- CRC32.BYTES (R78). -/
def crc32Bytes (os : List Octet) : List Instr := feedBytes .crc32Feed4 .crc32Feed os

/-- RX.BYTES (R78). -/
def rxBytes (os : List Octet) : List Instr := os.map .rxPush

/-- TX.FRAME id, os (R78). -/
def txFrame (id : Octet) (os : List Octet) : List Instr :=
  .txStart id (BitVec.ofNat 16 os.length) :: os.map .txData

/-- TX.BYTES (R78). -/
def txBytes (os : List Octet) : List Instr := os.map .txRaw

/-- A list of octet operands. -/
def octetList (os : List Nat) : List Octet := os.map (BitVec.ofNat 8)

/-- The operations a well-formed statement stands for (R77, R78). -/
def expand : Stmt → List Instr
  | .opN op => [instrN op]
  | .opB op o => [instrB op (BitVec.ofNat 8 o)]
  | .txStart id len => [.txStart (BitVec.ofNat 8 id) (BitVec.ofNat 16 len)]
  | .wrData v => [.wrData (BitVec.ofNat 32 v)]
  | .wrConfig v => [.wrConfig (BitVec.ofNat 32 v)]
  | .rd r => [instrRd r]
  | .crc16Bytes os => crc16Bytes (octetList os)
  | .crc32Bytes os => crc32Bytes (octetList os)
  | .crc16Of os => .crc16Init :: crc16Bytes (octetList os)
  | .crc32Of os => .crc32Init :: crc32Bytes (octetList os)
  | .rxBytes os => rxBytes (octetList os)
  | .txFrame id os => txFrame (BitVec.ofNat 8 id) (octetList os)
  | .txBytes os => txBytes (octetList os)
  | .cfg skip maxlen => [.wrConfig (BitVec.ofNat 32 (maxlen * 2 ^ 16 + skip))]

/-- The access words of a statement; an operand out of range is an assembly error, and no value is truncated (R77). -/
def assemble (st : Stmt) : Option (List AccessWord) :=
  if st.wf then some ((expand st).map encode) else none

end Sys2Proof.Machine
end

