-- ==== Sys2Proof/Safety.lean ====
section
/-! DEFINITION. The terms of the claims: what it means that the host performs operations, the frame of R10, the checks of
R235 spelled over the bits of an access, and the invariants of R39. -/

namespace Sys2Proof.Safety

open Sys2Proof.Machine

/-! ## Performing operations -/

/-- The host supplies `is` in order at state `s`, and after performing all of them the block is in `t` (R269). -/
def Performs (s : State) (is : List Instr) (t : State) : Prop :=
  Host.Core.run Sys2Proof.core is.length { s with pending := is.map encode ++ s.pending } = .next t

/-- A write of the command word `w` to CMD performs the operation `i`, in every state (R73, R74). -/
def CommandRuns (w : Word) (i : Instr) : Prop := ∀ s : State, step (s.present (accCmd w)) = exec i s

/-- A read at `off` performs the operation `i`, in every state and whatever WDATA holds (R70, R73). -/
def ReadRuns (off : Octet) (i : Instr) : Prop :=
  ∀ (s : State) (w : Word), step (s.present (0#1 ++ off ++ w)) = exec i s

/-- Every command word with this OP and a bit set at `low` or above raises ILLEGAL_CMD and does nothing else (R75). -/
def ReservedBitsRaise (op : Octet) (low : Nat) : Prop :=
  ∀ (s : State) (w : Word), cmdOp w = op → w.toNat / 2 ^ low ≠ 0 →
    step (s.present (accCmd w)) = .next (s.raise .illegalCmd)

/-! ## Frames -/

/-- The checksum of a frame: over command_id, length and payload, never the sync octet (R10). -/
def frameCrc (id : Octet) (payload : List Octet) : Half :=
  let n := BitVec.ofNat 16 payload.length
  crc16Of (id :: lo8 n :: hi8 n :: payload)

/-- The command frame of R10. -/
def frameOf (id : Octet) (payload : List Octet) : List Octet :=
  let n := BitVec.ofNat 16 payload.length
  let c := frameCrc id payload
  [Config.sync, id, lo8 n, hi8 n] ++ payload ++ [lo8 c, hi8 c]

/-! ## The checks of R235 -/

/-- OP values of format N (R71). -/
def opsN : List Nat := [0x00, 0x01, 0x03, 0x11, 0x13, 0x20, 0x33, 0xF0, 0xFF]

/-- OP values of format B (R71). -/
def opsB : List Nat := [0x02, 0x12, 0x21, 0x31, 0x32]

/-- OP values of format H (R71). -/
def opsH : List Nat := [0x30]

/-- OFF of an access as a number (R50). -/
def offsetOf (a : AccessWord) : Nat := a.toNat / 2 ^ 32 % 2 ^ 8

/-- WE of an access (R50). -/
def isWrite (a : AccessWord) : Bool := 2 ^ 40 ≤ a.toNat

/-- The command word of an access, as a number (R70). -/
def commandOf (a : AccessWord) : Nat := a.toNat % 2 ^ 32

/-- OFF[1:0] is not 0 (R53, R231). -/
def misaligned (a : AccessWord) : Bool := offsetOf a % 4 != 0

/-- A write to an offset other than 0x00, 0x04, 0x08, or a read above 0x34 (R231). -/
def offsetRefused (a : AccessWord) : Bool :=
  if isWrite a then !([0x00, 0x04, 0x08].contains (offsetOf a)) else 0x34 < offsetOf a

/-- A command word with an undefined OP, or with a reserved bit of its format set (R75). -/
def commandRefused (w : Nat) : Bool :=
  let op := w % 256
  if opsN.contains op then w / 2 ^ 8 != 0
  else if opsB.contains op then w / 2 ^ 16 != 0
  else !(opsH.contains op)

/-- A transmit command out of sequence (R234). -/
def sequenceRefused (s : State) (w : Nat) : Bool :=
  let op := w % 256
  if op = 0x30 ∨ op = 0x32 then s.txBusy else if op = 0x31 then !s.txBusy else false

/-- The error of the first check of R235 that an access fails, or NONE. -/
def firstFailingCheck (s : State) (a : AccessWord) : ErrCode :=
  if misaligned a then .badAccess
  else if offsetRefused a then .badAccess
  else if isWrite a && offsetOf a == 0x00 then
    if commandRefused (commandOf a) then .illegalCmd
    else if sequenceRefused s (commandOf a) then .txSeq
    else .none
  else .none

/-! ## Invariants (R39) -/

/-- The transmit framer's open frame stands at the end of TXOUT: its header and the payload octets taken so far, with
TX_REM more to come and TXCRC the CRC-16 of what follows the sync octet (R39, R170, R171). -/
def TxFrameOpen (s : State) : Prop :=
  ∃ (before payload : List Octet) (id : Octet) (n : Half),
    s.txout = before ++ [Config.sync, id, lo8 n, hi8 n] ++ payload ∧
    payload.length + s.txRem.toNat = n.toNat ∧
    s.txCrc = crc16Of (id :: lo8 n :: hi8 n :: payload)

/-- RXCRC is the CRC-16 of the octets taken since the current frame's sync, without the sync and checksum octets (R39).
In HUNT it is the seed, or covers the header of a frame whose length was rejected. -/
def RxCrcCovers (s : State) : Prop :=
  match s.rxSt with
  | .skip => s.rxCrc = Config.crc16Seed
  | .hunt => s.rxCrc = Config.crc16Seed ∨ s.rxCrc = crc16Of [s.rxCmdid, lo8 s.rxLen, hi8 s.rxLen]
  | .cmd => s.rxCrc = Config.crc16Seed
  | .lenLo => s.rxCrc = crc16Of [s.rxCmdid]
  | .lenHi => s.rxCrc = crc16Of [s.rxCmdid, lo8 s.rxLen]
  | .payload | .crcLo | .crcHi | .done =>
    ∃ payload : List Octet, payload.length = s.rxPcount.toNat ∧
      s.rxCrc = crc16Of (s.rxCmdid :: lo8 s.rxLen :: hi8 s.rxLen :: payload)

/-- Where the receive framer stands in the octet stream: payload octets lie from RX_PSTART on (R30, R147). -/
def RxPositioned (s : State) : Prop :=
  match s.rxSt with
  | .payload | .crcLo => s.rxPos = s.rxPstart + s.rxPcount.setWidth 32
  | .crcHi => s.rxPos = s.rxPstart + s.rxPcount.setWidth 32 + 1#32
  | _ => True

/-- The invariants that the rules keep (R39), with those of R30, R37, R143 and R149 on RX_PSTART, ERRCODE,
RX_PCOUNT and RX_MATCH. -/
structure Inv (s : State) : Prop where
  /-- TX_BUSY = 1 if and only if TX_REM > 0 (R39). -/
  busyIffRemaining : s.txBusy = true ↔ 0 < s.txRem.toNat
  /-- RX_ST = SKIP if and only if RX_SKIPREM > 0 (R39). -/
  skipIffRemaining : s.rxSt = .skip ↔ 0 < s.rxSkiprem.toNat
  /-- Before the payload no payload octet is counted (R143). -/
  headerUncounted : s.rxSt = .cmd ∨ s.rxSt = .lenLo ∨ s.rxSt = .lenHi → s.rxPcount = 0#16
  /-- In PAYLOAD, RX_PCOUNT < RX_LEN (R39). -/
  payloadOpen : s.rxSt = .payload → s.rxPcount.toNat < s.rxLen.toNat
  /-- In CRCLO, CRCHI and DONE, RX_PCOUNT = RX_LEN (R39). -/
  payloadWhole : s.rxSt = .crcLo ∨ s.rxSt = .crcHi ∨ s.rxSt = .done → s.rxPcount = s.rxLen
  /-- TXCRC covers the open frame on TXOUT (R39). -/
  txCovers : s.txBusy = true → TxFrameOpen s
  /-- RXCRC covers the current frame (R39). -/
  rxCovers : RxCrcCovers s
  /-- The payload boundary (R30). -/
  rxPositioned : RxPositioned s
  /-- RX_MATCH = 1 exactly at a complete frame whose checksums agree (R149, R38). -/
  matchIffAgree : s.rxMatch = true ↔ s.rxSt = .done ∧ s.rxCrcRecv = s.rxCrc
  /-- ERR = 1 if and only if an error code is recorded (R37). -/
  errIffCode : s.err = true ↔ s.errcode ≠ .none

end Sys2Proof.Safety
end

