-- ==== Sys2Proof/Certificates/Slice0/Obligations.lean ====
section
/-! DEFINITION. The statements for the provers, from the numbered rules of spec/. -/

open Sys2Proof Sys2Proof.Machine Sys2Proof.Safety

/-! ## Decoding and encoding -/

/-- Decoding an operation's access word gives the operation back, for every operation and every operand. -/
def Obligations.DecodeOfEncodeIsTheOperation : Prop :=
  ∀ i : Instr, i.wf = true → decode (encode i) = .ok i

/-- Each legal access word is the encoding of what it decodes to. For a write the spec fixes every bit (R70, R71). For a
read the spec makes WDATA a don't-care (R50, R70), and that the encoder writes 0 there is THE MODEL'S CHOICE (log 9). -/
def Obligations.EncodeOfDecodeIsTheWord : Prop :=
  ∀ (a : AccessWord) (i : Instr), decode a = .ok i →
    (isWrite a = true → encode i = a) ∧ (isWrite a = false → encode i = a &&& 0x1FF00000000#41)

/-- The decoder follows the opcode table: a decoded word is one of its operation's row, and every word of a row decodes
to an operation of that row. No word belongs to two rows. -/
def Obligations.DecoderFollowsOpcodeTable : Prop :=
  (∀ (a : AccessWord) (i : Instr), decode a = .ok i → matchesRow a i) ∧
  (∀ (a : AccessWord) (i : Instr), matchesRow a i → ∃ j, decode a = .ok j ∧ tableRow j = tableRow i) ∧
  (∀ (a : AccessWord) (i j : Instr), matchesRow a i → matchesRow a j → tableRow i = tableRow j)

/-- The encoding examples that the spec derives (R79, "derived: from rules R70, R71 and R73"), and its illegal one. -/
def Obligations.EncodingExamplesOfR79 : Prop :=
  assemble (.opN .nop) = some [0x10000000000#41] ∧ decode 0x10000000000#41 = .ok .nop ∧
  assemble (.opB .crc16Feed 0x31) = some [0x10000003102#41] ∧ decode 0x10000003102#41 = .ok (.crc16Feed 0x31#8) ∧
  assemble (.opB .rxPush 0x02) = some [0x10000000221#41] ∧ decode 0x10000000221#41 = .ok (.rxPush 0x02#8) ∧
  assemble (.txStart 0x30 0) = some [0x10000003030#41] ∧ decode 0x10000003030#41 = .ok (.txStart 0x30#8 0#16) ∧
  assemble (.txStart 0x21 4) = some [0x10000042130#41] ∧ decode 0x10000042130#41 = .ok (.txStart 0x21#8 4#16) ∧
  assemble (.wrData 0x34333231) = some [0x10434333231#41] ∧ decode 0x10434333231#41 = .ok (.wrData 0x34333231#32) ∧
  assemble (.wrConfig 0xFFFF0010) = some [0x108FFFF0010#41] ∧ decode 0x108FFFF0010#41 = .ok (.wrConfig 0xFFFF0010#32) ∧
  assemble (.rd .status) = some [0x00C00000000#41] ∧ (∀ w : Word, decode (0#1 ++ 0x0C#8 ++ w) = .ok .rdStatus) ∧
  assemble (.opN .sreset) = some [0x100000000FF#41] ∧ decode 0x100000000FF#41 = .ok .sreset ∧
  decode 0x10000000102#41 = .ok (.crc16Feed 0x01#8) ∧
  (∀ s : State, step (s.present 0x10000010102#41) = .next (s.raise .illegalCmd))

/-- An assembler operand out of range is an assembly error, and one in range is not truncated (R77). -/
def Obligations.AssemblerTruncatesNoOperand : Prop :=
  (∀ (op : OpB) (o : Nat), 256 ≤ o → assemble (.opB op o) = none) ∧
  (∀ (op : OpB) (d : Octet), assemble (.opB op d.toNat) = some [encode (instrB op d)]) ∧
  (∀ id len : Nat, 256 ≤ id ∨ 65536 ≤ len → assemble (.txStart id len) = none) ∧
  (∀ (id : Octet) (len : Half), assemble (.txStart id.toNat len.toNat) = some [encode (.txStart id len)]) ∧
  (∀ v : Nat, 2 ^ 32 ≤ v → assemble (.wrData v) = none ∧ assemble (.wrConfig v) = none) ∧
  (∀ v : Word, assemble (.wrData v.toNat) = some [encode (.wrData v)] ∧
    assemble (.wrConfig v.toNat) = some [encode (.wrConfig v)])

/-! ## One step -/

/-- A step takes the host's next operation and runs what it decodes to; the operations after it stay. -/
def Obligations.StepRunsTheDecodedOperation : Prop :=
  ∀ (s : State) (a : AccessWord) (rest : List AccessWord) (i : Instr),
    s.pending = a :: rest → decode a = .ok i → i.wf = true → step s = exec i { s with pending := rest }

/-- Every step answers a next state, whatever the host's operations are: no operation faults or is refused (R232, R267).
That an emitting operation completes carries the premise that the TXOUT sink accepts every octet, TX_SINK_READY = true
(R266, D25, I11): THE MODEL'S CHOICE, which the spec fixes for the model and leaves open for a platform (log 4). That a step
without a host operation answers a next state is THE MODEL'S CHOICE too (log 2). -/
def Obligations.EveryStepAnswersNext : Prop := ∀ s : State, ∃ t : State, step s = .next t

/-- While the host supplies no operation nothing changes. THE MODEL'S CHOICE (log 2), from R8's "state it does not name is
unchanged" and R246. -/
def Obligations.StepWithoutOperationChangesNothing : Prop := ∀ s : State, s.pending = [] → step s = .next s

/-- Each operation performed writes nothing into the host's operations still to come. -/
def Obligations.OperationsLeaveTheHostsQueue : Prop :=
  ∀ (s t : State) (a : AccessWord) (rest : List AccessWord),
    s.pending = a :: rest → step s = .next t → t.pending = rest

/-! ## Errors -/

/-- `raise` records the first error only, and the record is cleared by CLRERR, SRESET and reset (R37). -/
def Obligations.ErrorRecordKeepsTheFirst : Prop :=
  (∀ (s : State) (e : ErrCode), s.err = false → s.raise e = { s with err := true, errcode := e }) ∧
  (∀ (s : State) (e : ErrCode), s.err = true → s.raise e = s) ∧
  (∀ s : State, exec .clrerr s = .next { s with err := false, errcode := .none }) ∧
  (∀ s : State, ∃ t, exec .sreset s = .next t ∧ t.err = false ∧ t.errcode = .none) ∧
  State.reset.err = false ∧ State.reset.errcode = .none

/-- The checks run in the order of R235, and the first that fails decides the error recorded. -/
def Obligations.FirstFailingCheckDecidesTheError : Prop :=
  ∀ (s : State) (a : AccessWord), s.err = false → s.errcode = .none →
    ∃ t, step (s.present a) = .next t ∧ t.errcode = firstFailingCheck s a ∧
      (t.err = true ↔ firstFailingCheck s a ≠ .none)

/-- An operation that fails a check raises its error and has no other effect; a raising read returns 0; an error already
recorded is kept (R231, R232, R233). -/
def Obligations.FailingOperationOnlyRaises : Prop :=
  ∀ (s : State) (a : AccessWord), firstFailingCheck s a ≠ .none →
    step (s.present a) = .next { s with
      err := true
      errcode := if s.err = true then s.errcode else firstFailingCheck s a
      rdata := if isWrite a = true then s.rdata else s.rdata ++ [0x00000000#32] }

/-- TX_SEQ: TX.START and TX.RAW while a frame is open, TX.DATA while none is; TX.ABORT never (R234). -/
def Obligations.TransmitOutOfSequenceRaises : Prop :=
  ∀ (s : State) (d id : Octet) (len : Half),
    (s.txBusy = true → exec (.txStart id len) s = .next (s.raise .txSeq)) ∧
    (s.txBusy = false → exec (.txData d) s = .next (s.raise .txSeq)) ∧
    (s.txBusy = true → exec (.txRaw d) s = .next (s.raise .txSeq)) ∧
    (∃ t, exec .txAbort s = .next t ∧ t.err = s.err ∧ t.errcode = s.errcode)

/-! ## Reset -/

/-- Reset, by power-on and by SRESET: every element and every register image has the value of R260, and SRESET leaves
TXOUT. -/
def Obligations.ResetStateAndRegisterImages : Prop :=
  (∀ s : State, ∃ t, exec .sreset s = .next t ∧ t.txout = s.txout) ∧ State.reset.txout = [] ∧
  ∀ t : State, (t = State.reset ∨ ∃ s, exec .sreset s = .next t) →
    t.data = 0#32 ∧ t.cfgSkip = 0#8 ∧ t.cfgMaxlen = 0xFFFF#16 ∧ t.crc16 = 0xFFFF#16 ∧ t.crc32 = 0xFFFFFFFF#32 ∧
    t.err = false ∧ t.errcode = .none ∧ t.rxSt = .hunt ∧ t.rxSkiprem = 0#8 ∧ t.rxCmdid = 0#8 ∧ t.rxLen = 0#16 ∧
    t.rxPcount = 0#16 ∧ t.rxCrcRecv = 0#16 ∧ t.rxCrc = 0xFFFF#16 ∧ t.rxMatch = false ∧ t.rxLenerr = false ∧
    t.rxClass = .none ∧ t.rxLast = 0#8 ∧ t.rxPos = 0#32 ∧ t.rxPstart = 0#32 ∧ t.txBusy = false ∧ t.txRem = 0#16 ∧
    t.txCrc = 0xFFFF#16 ∧
    image t .cmd = 0x00000000#32 ∧ image t .data = 0x00000000#32 ∧ image t .config = 0xFFFF0000#32 ∧
    image t .status = 0x00000001#32 ∧ image t .crc16 = 0x0000FFFF#32 ∧ image t .crc32 = 0xFFFFFFFF#32 ∧
    image t .crc32Result = 0x00000000#32 ∧ image t .rxHdr = 0x00000000#32 ∧ image t .rxChk = 0xFFFF0000#32 ∧
    image t .rxCnt = 0x00000000#32 ∧ image t .rxResult = 0x00000000#32 ∧ image t .txInfo = 0xFFFF0000#32 ∧
    image t .rxPos = 0x00000000#32 ∧ image t .rxPstart = 0x00000000#32

/-! ## Control commands and register writes -/

/-- NOP changes nothing (R190). -/
def Obligations.NopChangesNothing : Prop :=
  (∀ s : State, exec .nop s = .next s) ∧ CommandRuns 0x00000000#32 .nop ∧ ReservedBitsRaise 0x00#8 8

/-- CLRERR clears the error record and nothing else (R191). -/
def Obligations.ClrerrClearsOnlyTheRecord : Prop :=
  (∀ s : State, exec .clrerr s = .next { s with err := false, errcode := .none }) ∧
  CommandRuns 0x000000F0#32 .clrerr ∧ ReservedBitsRaise 0xF0#8 8 ∧
  (∀ s t : State, exec .clrerr s = .next t → (image t .status).extractLsb' 24 8 = 0x00#8)

/-- SRESET gives every element its reset value and leaves TXOUT (R192, R260). That it also leaves the list of RDATA
returned and the host's operations to come, which are no elements of R20, is THE MODEL'S CHOICE (log 3, log 1). -/
def Obligations.SresetEqualsPowerOnReset : Prop :=
  (∀ s : State, exec .sreset s =
    .next { State.reset with txout := s.txout, rdata := s.rdata, pending := s.pending }) ∧
  CommandRuns 0x000000FF#32 .sreset ∧ ReservedBitsRaise 0xFF#8 8 ∧
  (∀ s t : State, exec .sreset s = .next t →
    image t .status = 0x00000001#32 ∧ image t .config = 0xFFFF0000#32 ∧ t.txout = s.txout)

/-- WR DATA stores its 32 bits, RD DATA reads them back, and only a misaligned offset near it is an error (R193). -/
def Obligations.WrDataStoresTheWord : Prop :=
  (∀ (s : State) (v : Word), exec (.wrData v) s = .next { s with data := v }) ∧
  (∀ (s : State) (v : Word), step (s.present (1#1 ++ 0x04#8 ++ v)) = exec (.wrData v) s) ∧
  (∀ (s t : State) (v : Word), exec (.wrData v) s = .next t →
    exec .rdData t = .next (t.returnRead v) ∧ exec (.wrData v) t = .next t) ∧
  (∀ (s : State) (off : Octet) (v : Word), 0x05 ≤ off.toNat → off.toNat ≤ 0x07 →
    step (s.present (1#1 ++ off ++ v)) = .next (s.raise .badAccess))

/-- WR CONFIG stores SKIP and MAXLEN, ignores bits 15:8, and leaves every other element, RX_SKIPREM among them (R194). -/
def Obligations.WrConfigStoresTheFields : Prop :=
  (∀ (s : State) (skip ign : Octet) (maxlen : Half),
    exec (.wrConfig (maxlen ++ ign ++ skip)) s = .next { s with cfgSkip := skip, cfgMaxlen := maxlen }) ∧
  (∀ (s : State) (v : Word), step (s.present (1#1 ++ 0x08#8 ++ v)) = exec (.wrConfig v) s) ∧
  (∀ (s t : State) (v : Word), exec (.wrConfig v) s = .next t →
    exec .rdConfig t = .next (t.returnRead (v &&& 0xFFFF00FF#32)) ∧ t.rxSkiprem = s.rxSkiprem)

/-! ## Register reads -/

/-- The reads of CMD, DATA, CONFIG, STATUS and the CRC registers (R195..R201). -/
def Obligations.ControlAndCrcReadsReturnTheirImages : Prop :=
  (ReadRuns 0x00#8 .rdCmd ∧ ∀ s : State, exec .rdCmd s = .next { s with rdata := s.rdata ++ [0x00000000#32] }) ∧
  (ReadRuns 0x04#8 .rdData ∧ ∀ s : State, exec .rdData s = .next { s with rdata := s.rdata ++ [s.data] }) ∧
  (ReadRuns 0x08#8 .rdConfig ∧
    ∀ s : State, exec .rdConfig s = .next { s with rdata := s.rdata ++ [s.cfgMaxlen ++ 0x00#8 ++ s.cfgSkip] }) ∧
  (ReadRuns 0x0C#8 .rdStatus ∧
    ∀ s : State, ∃ v : Word, exec .rdStatus s = .next { s with rdata := s.rdata ++ [v] } ∧
      v.extractLsb' 0 4 = s.rxSt.code ∧ v.getLsbD 4 = s.txBusy ∧ v.extractLsb' 5 3 = 0#3 ∧ v.getLsbD 8 = s.rxMatch ∧
      v.getLsbD 9 = s.rxLenerr ∧ v.extractLsb' 10 14 = 0#14 ∧ v.extractLsb' 24 4 = s.errcode.code ∧
      v.extractLsb' 28 3 = 0#3 ∧ v.getLsbD 31 = s.err) ∧
  (ReadRuns 0x10#8 .rdCrc16 ∧ ∀ s : State, exec .rdCrc16 s = .next { s with rdata := s.rdata ++ [0#16 ++ s.crc16] }) ∧
  (ReadRuns 0x14#8 .rdCrc32 ∧ ∀ s : State, exec .rdCrc32 s = .next { s with rdata := s.rdata ++ [s.crc32] }) ∧
  (ReadRuns 0x18#8 .rdCrc32Result ∧
    ∀ s : State, exec .rdCrc32Result s = .next { s with rdata := s.rdata ++ [s.crc32 ^^^ 0xFFFFFFFF#32] })

/-- The reads of the framers' registers (R202..R208). -/
def Obligations.FramerReadsReturnTheirImages : Prop :=
  (ReadRuns 0x1C#8 .rdRxHdr ∧
    ∀ s : State, exec .rdRxHdr s = .next { s with rdata := s.rdata ++ [s.rxLen ++ 0x00#8 ++ s.rxCmdid] }) ∧
  (ReadRuns 0x20#8 .rdRxChk ∧
    ∀ s : State, exec .rdRxChk s = .next { s with rdata := s.rdata ++ [s.rxCrc ++ s.rxCrcRecv] }) ∧
  (ReadRuns 0x24#8 .rdRxCnt ∧
    ∀ s : State, exec .rdRxCnt s = .next { s with rdata := s.rdata ++ [0x00#8 ++ s.rxSkiprem ++ s.rxPcount] }) ∧
  (ReadRuns 0x28#8 .rdRxResult ∧
    ∀ s : State, exec .rdRxResult s =
      .next { s with rdata := s.rdata ++ [0#16 ++ s.rxLast ++ 0#4 ++ s.rxClass.code] }) ∧
  (ReadRuns 0x2C#8 .rdTxInfo ∧
    ∀ s : State, exec .rdTxInfo s = .next { s with rdata := s.rdata ++ [s.txCrc ++ s.txRem] }) ∧
  (ReadRuns 0x30#8 .rdRxPos ∧ ∀ s : State, exec .rdRxPos s = .next { s with rdata := s.rdata ++ [s.rxPos] }) ∧
  (ReadRuns 0x34#8 .rdRxPstart ∧ ∀ s : State, exec .rdRxPstart s = .next { s with rdata := s.rdata ++ [s.rxPstart] })

/-- Every access at an aligned mapped offset that reads returns one RDATA, changes no element and raises nothing, so
reading again returns the same value; a misaligned read and one above 0x34 return 0 and raise BAD_ACCESS (R209). -/
def Obligations.ReadsHaveNoSideEffect : Prop :=
  ∀ (s : State) (a : AccessWord), isWrite a = false →
    (offsetOf a % 4 = 0 → offsetOf a ≤ 0x34 →
      ∃ v : Word, step (s.present a) = .next { s with rdata := s.rdata ++ [v] } ∧
        step ({ s with rdata := s.rdata ++ [v] }.present a) = .next { s with rdata := s.rdata ++ [v] ++ [v] }) ∧
    ((offsetOf a % 4 ≠ 0 ∨ 0x34 < offsetOf a) →
      step (s.present a) = .next ((s.returnRead 0x00000000#32).raise .badAccess))

/-! ## The CRC engines -/

/-- CRC16.INIT, CRC16.FEED and CRC16.FEED4: their effect, encodings, reserved bits and examples (R102..R104). -/
def Obligations.Crc16CommandsUpdateTheAccumulator : Prop :=
  ((∀ s : State, exec .crc16Init s = .next { s with crc16 := 0xFFFF#16 }) ∧
    CommandRuns 0x00000001#32 .crc16Init ∧ ReservedBitsRaise 0x01#8 8) ∧
  ((∀ (s : State) (d : Octet), exec (.crc16Feed d) s = .next { s with crc16 := step16 s.crc16 d }) ∧
    (∀ d : Octet, CommandRuns (0#16 ++ d ++ 0x02#8) (.crc16Feed d)) ∧ ReservedBitsRaise 0x02#8 16 ∧
    step16 0xFFFF#16 0x41#8 = 0xB915#16 ∧ step16 0xFFFF#16 0x00#8 = 0xE1F0#16 ∧
    step16 0xFFFF#16 0xFF#8 = 0xFF00#16 ∧ step16 0x0000#16 0x00#8 = 0x0000#16) ∧
  ((∀ (s : State) (b0 b1 b2 b3 : Octet), s.data = b3 ++ b2 ++ b1 ++ b0 →
      exec .crc16Feed4 s = .next { s with crc16 := step16 (step16 (step16 (step16 s.crc16 b0) b1) b2) b3 }) ∧
    CommandRuns 0x00000003#32 .crc16Feed4 ∧ ReservedBitsRaise 0x03#8 8 ∧
    (∀ s : State, s.crc16 = 0xFFFF#16 → s.data = 0x34333231#32 →
      exec .crc16Feed4 s = .next { s with crc16 := 0x5349#16 }))

/-- CRC32.INIT, CRC32.FEED and CRC32.FEED4: their effect, encodings, reserved bits and examples (R122..R124). -/
def Obligations.Crc32CommandsUpdateTheAccumulator : Prop :=
  ((∀ s : State, exec .crc32Init s = .next { s with crc32 := 0xFFFFFFFF#32 }) ∧
    CommandRuns 0x00000011#32 .crc32Init ∧ ReservedBitsRaise 0x11#8 8 ∧
    (∀ s t : State, exec .crc32Init s = .next t → image t .crc32Result = 0x00000000#32)) ∧
  ((∀ (s : State) (d : Octet), exec (.crc32Feed d) s = .next { s with crc32 := step32 s.crc32 d }) ∧
    (∀ d : Octet, CommandRuns (0#16 ++ d ++ 0x12#8) (.crc32Feed d)) ∧ ReservedBitsRaise 0x12#8 16 ∧
    step32 0xFFFFFFFF#32 0x61#8 = 0x174841BC#32 ∧ step32 0xFFFFFFFF#32 0xFF#8 = 0x00FFFFFF#32 ∧
    step32 0xFFFFFFFF#32 0x00#8 = 0x2DFD1072#32 ∧ step32 0x00000000#32 0x00#8 = 0x00000000#32) ∧
  ((∀ (s : State) (b0 b1 b2 b3 : Octet), s.data = b3 ++ b2 ++ b1 ++ b0 →
      exec .crc32Feed4 s = .next { s with crc32 := step32 (step32 (step32 (step32 s.crc32 b0) b1) b2) b3 }) ∧
    CommandRuns 0x00000013#32 .crc32Feed4 ∧ ReservedBitsRaise 0x13#8 8 ∧
    (∀ s : State, s.crc32 = 0xFFFFFFFF#32 → s.data = 0x34333231#32 →
      exec .crc32Feed4 s = .next { s with crc32 := 0x641C1F5C#32 } ∧
        image { s with crc32 := 0x641C1F5C#32 } .crc32Result = 0x9BE3E0A3#32) ∧
    (∀ s : State, s.crc32 = 0xFFFFFFFF#32 → s.data = 0#32 →
      exec .crc32Feed4 s = .next { s with crc32 := 0xDEBB20E3#32 } ∧
        image { s with crc32 := 0xDEBB20E3#32 } .crc32Result = 0x2144DF1C#32))

/-- FEED4 equals the four FEED commands on the octets of DATA, low octet first, for both engines: the
spec derives it (R104, R124). -/
def Obligations.Feed4EqualsFourFeeds : Prop :=
  ∀ s : State,
    (∃ t, Performs s [.crc16Feed4] t ∧
      Performs s [.crc16Feed (s.data.extractLsb' 0 8), .crc16Feed (s.data.extractLsb' 8 8),
        .crc16Feed (s.data.extractLsb' 16 8), .crc16Feed (s.data.extractLsb' 24 8)] t) ∧
    (∃ t, Performs s [.crc32Feed4] t ∧
      Performs s [.crc32Feed (s.data.extractLsb' 0 8), .crc32Feed (s.data.extractLsb' 8 8),
        .crc32Feed (s.data.extractLsb' 16 8), .crc32Feed (s.data.extractLsb' 24 8)] t)

/-- The table form of the CRC-16 update gives the same values as the bit loop: a law the spec derives (R105). -/
def Obligations.Crc16TableFormAgrees : Prop :=
  (∀ (c : Half) (o : Octet), step16 c o = (c <<< 8) ^^^ t16 (c.extractLsb' 8 8 ^^^ o)) ∧
  t16 0x00#8 = 0x0000#16 ∧ t16 0x01#8 = 0x1021#16 ∧ t16 0x02#8 = 0x2042#16 ∧ t16 0x80#8 = 0x9188#16 ∧
  t16 0xFF#8 = 0x1EF0#16

/-- The laws of the CRC-16: splitting a computation, the residue of a big-endian append, and no residue of the
little-endian one: laws the spec derives (R106). -/
def Obligations.Crc16SplitsAndLeavesItsResidue : Prop :=
  (∀ (a b : List Octet) (seed : Half), crc16From seed (a ++ b) = crc16From (crc16From seed a) b) ∧
  (∀ a : List Octet, crc16Of (a ++ [(crc16Of a).extractLsb' 8 8, (crc16Of a).extractLsb' 0 8]) = 0x0000#16) ∧
  crc16Of [0x31, 0x32, 0x33, 0x34, 0x35, 0x36, 0x37, 0x38, 0x39] = 0x29B1#16 ∧
  crc16Of [0x31, 0x32, 0x33, 0x34, 0x35, 0x36, 0x37, 0x38, 0x39, 0xB1, 0x29] = 0x93F3#16

/-- The CRC-32 update in its table form equals the bitwise form: the spec derives it from the table (R120, "This equals
the bitwise form"). -/
def Obligations.Crc32TableFormEqualsBitLoop : Prop :=
  ∀ (c : Word) (o : Octet), step32 c o = Nat.repeat bit32 8 (c ^^^ o.setWidth 32)

/-- The laws of the CRC-32 that the spec derives: splitting a computation of the raw register, and the residue (R125). -/
def Obligations.Crc32SplitsAndLeavesItsResidue : Prop :=
  (∀ a b : List Octet, raw32Of (a ++ b) = raw32From (raw32Of a) b) ∧
  (∀ a : List Octet,
    raw32Of (a ++ [(crc32Of a).extractLsb' 0 8, (crc32Of a).extractLsb' 8 8, (crc32Of a).extractLsb' 16 8,
      (crc32Of a).extractLsb' 24 8]) = 0xDEBB20E3#32 ∧
    crc32Of (a ++ [(crc32Of a).extractLsb' 0 8, (crc32Of a).extractLsb' 8 8, (crc32Of a).extractLsb' 16 8,
      (crc32Of a).extractLsb' 24 8]) = 0x2144DF1C#32)

/-- CRC16.BYTES and CRC32.BYTES fold their octets into the accumulator, from any state, and leave DATA holding their last
full group of four, or unchanged when there is none (R78). -/
def Obligations.FeedBytesFoldsEveryOctet : Prop :=
  ∀ (s : State) (groups rest : List Octet), groups.length % 4 = 0 → rest.length < 4 →
    ∃ t u : State,
      Performs s (crc16Bytes (groups ++ rest)) t ∧
      t = { s with crc16 := crc16From s.crc16 (groups ++ rest), data := t.data } ∧
      Performs s (crc32Bytes (groups ++ rest)) u ∧
      u = { s with crc32 := raw32From s.crc32 (groups ++ rest), data := u.data } ∧
      (groups = [] → t.data = s.data ∧ u.data = s.data) ∧
      (∀ (front : List Octet) (b0 b1 b2 b3 : Octet), groups = front ++ [b0, b1, b2, b3] →
        t.data = b3 ++ b2 ++ b1 ++ b0 ∧ u.data = b3 ++ b2 ++ b1 ++ b0)

/-! ## The receive framer -/

/-- RX.RESET re-arms the receive framer with CFG_SKIP octets to discard, and changes nothing else (R140). -/
def Obligations.RxResetRearmsTheReceiver : Prop :=
  (∀ s : State, exec .rxReset s = .next { s with
    rxSkiprem := s.cfgSkip
    rxSt := if 0 < s.cfgSkip.toNat then .skip else .hunt
    rxCmdid := 0#8, rxLen := 0#16, rxPcount := 0#16, rxCrcRecv := 0#16, rxCrc := 0xFFFF#16, rxMatch := false
    rxLenerr := false, rxClass := .none, rxLast := 0#8, rxPos := 0#32, rxPstart := 0#32 }) ∧
  CommandRuns 0x00000020#32 .rxReset ∧ ReservedBitsRaise 0x20#8 8

/-- RX.PUSH of any octet in any state is performed, counts the octet, records it, raises nothing, and changes no element
outside the receive framer (R141). -/
def Obligations.RxPushTakesOneOctet : Prop :=
  (∀ (s : State) (d : Octet), ∃ t, exec (.rxPush d) s = .next t ∧
    t.rxPos = s.rxPos + 1#32 ∧ t.rxLast = d ∧
    t = { s with
      rxSt := t.rxSt, rxSkiprem := t.rxSkiprem, rxCmdid := t.rxCmdid, rxLen := t.rxLen, rxPcount := t.rxPcount
      rxCrcRecv := t.rxCrcRecv, rxCrc := t.rxCrc, rxMatch := t.rxMatch, rxLenerr := t.rxLenerr, rxClass := t.rxClass
      rxLast := t.rxLast, rxPos := t.rxPos, rxPstart := t.rxPstart }) ∧
  (∀ d : Octet, CommandRuns (0#16 ++ d ++ 0x21#8) (.rxPush d)) ∧ ReservedBitsRaise 0x21#8 16

/-- An octet pushed in SKIP is discarded; the last one leads to HUNT (R142). That RX_SKIPREM ≥ 1 there is an invariant
(R39). -/
def Obligations.RxPushInSkipDiscards : Prop :=
  ∀ (s : State) (d : Octet), s.rxSt = .skip → 1 ≤ s.rxSkiprem.toNat →
    exec (.rxPush d) s = .next { s with
      rxPos := s.rxPos + 1#32, rxLast := d, rxClass := .skipped, rxSkiprem := s.rxSkiprem - 1#8
      rxSt := if s.rxSkiprem = 1#8 then .hunt else .skip }

/-- An octet pushed in HUNT: 0x02 opens a frame, any other octet is discarded (R143). -/
def Obligations.RxPushInHuntSyncs : Prop :=
  ∀ (s : State) (d : Octet), s.rxSt = .hunt →
    (d = 0x02#8 → exec (.rxPush d) s = .next { s with
      rxPos := s.rxPos + 1#32, rxLast := d, rxClass := .sync, rxSt := .cmd
      rxCmdid := 0#8, rxLen := 0#16, rxPcount := 0#16, rxCrcRecv := 0#16, rxCrc := 0xFFFF#16, rxMatch := false
      rxPstart := 0#32 }) ∧
    (d ≠ 0x02#8 → exec (.rxPush d) s = .next { s with
      rxPos := s.rxPos + 1#32, rxLast := d, rxClass := .discard })

/-- An octet pushed in CMD is the command_id, whatever it is (R144). -/
def Obligations.RxPushInCmdTakesTheId : Prop :=
  ∀ (s : State) (d : Octet), s.rxSt = .cmd →
    exec (.rxPush d) s = .next { s with
      rxPos := s.rxPos + 1#32, rxLast := d, rxClass := .cmdid, rxSt := .lenLo
      rxCmdid := d, rxCrc := step16 s.rxCrc d }

/-- An octet pushed in LENLO is the length's low octet (R145). -/
def Obligations.RxPushInLenLoTakesTheLowOctet : Prop :=
  ∀ (s : State) (d : Octet), s.rxSt = .lenLo →
    exec (.rxPush d) s = .next { s with
      rxPos := s.rxPos + 1#32, rxLast := d, rxClass := .lenLo, rxSt := .lenHi
      rxLen := 0#8 ++ d, rxCrc := step16 s.rxCrc d }

/-- An octet pushed in LENHI completes the length, which is rejected above CFG_MAXLEN and accepted otherwise (R146). -/
def Obligations.RxPushInLenHiJudgesTheLength : Prop :=
  ∀ (s : State) (d lo hi : Octet), s.rxSt = .lenHi → s.rxLen = hi ++ lo →
    (s.cfgMaxlen.toNat < (d ++ lo).toNat → exec (.rxPush d) s = .next { s with
      rxPos := s.rxPos + 1#32, rxLast := d, rxLen := d ++ lo, rxCrc := step16 s.rxCrc d
      rxLenerr := true, rxSt := .hunt, rxClass := .lenRej }) ∧
    ((d ++ lo).toNat ≤ s.cfgMaxlen.toNat → exec (.rxPush d) s = .next { s with
      rxPos := s.rxPos + 1#32, rxLast := d, rxLen := d ++ lo, rxCrc := step16 s.rxCrc d
      rxPstart := s.rxPos + 1#32, rxSt := if (d ++ lo).toNat = 0 then .crcLo else .payload, rxClass := .lenHi })

/-- An octet pushed in PAYLOAD is a payload octet; the last one leads to the checksum (R147). That RX_PCOUNT < RX_LEN
there is an invariant (R39). -/
def Obligations.RxPushInPayloadCounts : Prop :=
  ∀ (s : State) (d : Octet), s.rxSt = .payload → s.rxPcount.toNat < s.rxLen.toNat →
    exec (.rxPush d) s = .next { s with
      rxPos := s.rxPos + 1#32, rxLast := d, rxClass := .payload, rxCrc := step16 s.rxCrc d
      rxPcount := s.rxPcount + 1#16, rxSt := if s.rxPcount.toNat + 1 = s.rxLen.toNat then .crcLo else .payload }

/-- An octet pushed in CRCLO is the checksum's low octet and feeds no CRC (R148). -/
def Obligations.RxPushInCrcLoTakesTheLowOctet : Prop :=
  ∀ (s : State) (d : Octet), s.rxSt = .crcLo →
    exec (.rxPush d) s = .next { s with
      rxPos := s.rxPos + 1#32, rxLast := d, rxClass := .crcLo, rxSt := .crcHi, rxCrcRecv := 0#8 ++ d }

/-- An octet pushed in CRCHI completes the frame, whether or not the checksums agree (R149). -/
def Obligations.RxPushInCrcHiCompares : Prop :=
  ∀ (s : State) (d lo hi : Octet), s.rxSt = .crcHi → s.rxCrcRecv = hi ++ lo →
    exec (.rxPush d) s = .next { s with
      rxPos := s.rxPos + 1#32, rxLast := d, rxClass := .crcHi, rxSt := .done
      rxCrcRecv := d ++ lo, rxMatch := decide (d ++ lo = s.rxCrc) }

/-- An octet pushed in DONE is trailing: only RX_POS, RX_LAST and RX_CLASS change (R150). -/
def Obligations.RxPushInDoneTrails : Prop :=
  ∀ (s : State) (d : Octet), s.rxSt = .done →
    exec (.rxPush d) s = .next { s with rxPos := s.rxPos + 1#32, rxLast := d, rxClass := .trail }

/-- The rows of the transition table that the spec derives (R151): the next RX_ST and RX_CLASS of a push. -/
def Obligations.RxTransitionsFollowR151 : Prop :=
  ∀ (s t : State) (d : Octet), exec (.rxPush d) s = .next t →
    (s.rxSt = .skip → s.rxSkiprem.toNat = 1 → t.rxSt = .hunt ∧ t.rxClass = .skipped) ∧
    (s.rxSt = .skip → 1 < s.rxSkiprem.toNat → t.rxSt = .skip ∧ t.rxClass = .skipped) ∧
    (s.rxSt = .hunt → d.toNat = 2 → t.rxSt = .cmd ∧ t.rxClass = .sync) ∧
    (s.rxSt = .hunt → d.toNat ≠ 2 → t.rxSt = .hunt ∧ t.rxClass = .discard) ∧
    (s.rxSt = .cmd → t.rxSt = .lenLo ∧ t.rxClass = .cmdid) ∧
    (s.rxSt = .lenLo → t.rxSt = .lenHi ∧ t.rxClass = .lenLo) ∧
    (s.rxSt = .lenHi → s.cfgMaxlen.toNat < t.rxLen.toNat → t.rxSt = .hunt ∧ t.rxClass = .lenRej) ∧
    (s.rxSt = .lenHi → t.rxLen.toNat ≤ s.cfgMaxlen.toNat → t.rxLen.toNat = 0 →
      t.rxSt = .crcLo ∧ t.rxClass = .lenHi) ∧
    (s.rxSt = .lenHi → t.rxLen.toNat ≤ s.cfgMaxlen.toNat → 0 < t.rxLen.toNat →
      t.rxSt = .payload ∧ t.rxClass = .lenHi) ∧
    (s.rxSt = .lenHi → t.rxLen.toNat = d.toNat * 256 + s.rxLen.toNat % 256) ∧
    (s.rxSt = .payload → s.rxPcount.toNat + 1 = s.rxLen.toNat → t.rxSt = .crcLo ∧ t.rxClass = .payload) ∧
    (s.rxSt = .payload → s.rxPcount.toNat + 1 < s.rxLen.toNat → t.rxSt = .payload ∧ t.rxClass = .payload) ∧
    (s.rxSt = .crcLo → t.rxSt = .crcHi ∧ t.rxClass = .crcLo) ∧
    (s.rxSt = .crcHi → t.rxSt = .done ∧ t.rxClass = .crcHi) ∧
    (s.rxSt = .done → t.rxSt = .done ∧ t.rxClass = .trail)

/-- A well-formed frame after an envelope and noise without a sync octet is decoded: RX.RESET, then pushing every octet
in order, ends in DONE with the frame's fields and a matching checksum, for every payload that CFG_MAXLEN admits. The
spec derives it (R152). Nothing outside the receive framer changes. -/
def Obligations.ReceiverDecodesEveryFrame : Prop :=
  ∀ (s : State) (envelope noise payload : List Octet) (id : Octet),
    envelope.length = s.cfgSkip.toNat → (∀ o ∈ noise, o ≠ 0x02#8) → payload.length ≤ s.cfgMaxlen.toNat →
    Performs s (.rxReset :: rxBytes (envelope ++ noise ++ frameOf id payload)) { s with
      rxSt := .done, rxSkiprem := 0#8, rxCmdid := id, rxLen := BitVec.ofNat 16 payload.length
      rxPcount := BitVec.ofNat 16 payload.length, rxCrcRecv := frameCrc id payload, rxCrc := frameCrc id payload
      rxMatch := true, rxLenerr := false, rxClass := .crcHi, rxLast := (frameCrc id payload).extractLsb' 8 8
      rxPos := BitVec.ofNat 32 (envelope.length + noise.length + payload.length + 6)
      rxPstart := BitVec.ofNat 32 (envelope.length + noise.length + 4) }

/-! ## The transmit framer -/

/-- TX.START while no frame is open emits the header and opens the frame, or emits the whole frame when LEN = 0; while
one is open it raises TX_SEQ (R170). -/
def Obligations.TxStartEmitsTheHeader : Prop :=
  (∀ (s : State) (id lo hi : Octet), s.txBusy = false → ¬(lo = 0#8 ∧ hi = 0#8) →
    exec (.txStart id (hi ++ lo)) s = .next { s with
      txout := s.txout ++ [0x02#8, id, lo, hi], txCrc := step16 (step16 (step16 0xFFFF#16 id) lo) hi
      txRem := hi ++ lo, txBusy := true }) ∧
  (∀ (s : State) (id clo chi : Octet), s.txBusy = false →
    step16 (step16 (step16 0xFFFF#16 id) 0#8) 0#8 = chi ++ clo →
    exec (.txStart id 0#16) s = .next { s with
      txout := s.txout ++ [0x02#8, id, 0#8, 0#8, clo, chi], txCrc := chi ++ clo, txRem := 0#16, txBusy := false }) ∧
  (∀ (s : State) (id : Octet) (len : Half), s.txBusy = true → exec (.txStart id len) s = .next (s.raise .txSeq)) ∧
  (∀ (id : Octet) (len : Half), CommandRuns (len ++ id ++ 0x30#8) (.txStart id len)) ∧
  (∀ s : State, s.txBusy = false → ∃ t, exec (.txStart 0x30#8 0#16) s = .next t ∧
    t.txout = s.txout ++ [0x02#8, 0x30#8, 0x00#8, 0x00#8, 0x39#8, 0x09#8] ∧ t.txCrc = 0x0939#16 ∧ t.txBusy = false)

/-- TX.DATA while a frame is open emits the octet, and after the last one the checksum, low octet first; while none is
open it raises TX_SEQ (R171). That TX_REM ≥ 1 while a frame is open is an invariant (R39). -/
def Obligations.TxDataEmitsThePayload : Prop :=
  (∀ (s : State) (d : Octet), s.txBusy = true → 1 < s.txRem.toNat →
    exec (.txData d) s = .next { s with
      txout := s.txout ++ [d], txCrc := step16 s.txCrc d, txRem := s.txRem - 1#16 }) ∧
  (∀ (s : State) (d clo chi : Octet), s.txBusy = true → s.txRem.toNat = 1 → step16 s.txCrc d = chi ++ clo →
    exec (.txData d) s = .next { s with
      txout := s.txout ++ [d, clo, chi], txCrc := chi ++ clo, txRem := 0#16, txBusy := false }) ∧
  (∀ (s : State) (d : Octet), s.txBusy = false → exec (.txData d) s = .next (s.raise .txSeq)) ∧
  (∀ d : Octet, CommandRuns (0#16 ++ d ++ 0x31#8) (.txData d)) ∧ ReservedBitsRaise 0x31#8 16

/-- TX.RAW while no frame is open emits its octet and changes no element; while one is open it raises TX_SEQ (R172). -/
def Obligations.TxRawEmitsOneOctet : Prop :=
  (∀ (s : State) (d : Octet), s.txBusy = false → exec (.txRaw d) s = .next { s with txout := s.txout ++ [d] }) ∧
  (∀ (s : State) (d : Octet), s.txBusy = true → exec (.txRaw d) s = .next (s.raise .txSeq)) ∧
  (∀ d : Octet, CommandRuns (0#16 ++ d ++ 0x32#8) (.txRaw d)) ∧ ReservedBitsRaise 0x32#8 16

/-- TX.ABORT closes the frame without a checksum; when none is open (and so, R39, TX_REM is 0) it changes nothing
(R173). -/
def Obligations.TxAbortAbandonsTheFrame : Prop :=
  (∀ s : State, exec .txAbort s = .next { s with txBusy := false, txRem := 0#16 }) ∧
  (∀ s : State, Inv s → s.txBusy = false → exec .txAbort s = .next s) ∧
  CommandRuns 0x00000033#32 .txAbort ∧ ReservedBitsRaise 0x33#8 8

/-- TX.START followed by one TX.DATA per payload octet appends exactly the frame of R10 to TXOUT and leaves the framer
idle, for every payload of at most 65535 octets. The spec derives it (R174). Nothing outside the transmit framer
changes. -/
def Obligations.TransmitterEmitsEveryFrame : Prop :=
  ∀ (s : State) (id : Octet) (payload : List Octet), s.txBusy = false → payload.length ≤ 65535 →
    Performs s (txFrame id payload) { s with
      txout := s.txout ++ frameOf id payload, txBusy := false, txRem := 0#16, txCrc := frameCrc id payload }

/-- Round trip: the octets TX.FRAME emits, pushed into a receive framer in HUNT that admits the length, are decoded to
the same command_id and payload. The spec derives it (R175). -/
def Obligations.TransmitThenReceiveRoundTrips : Prop :=
  ∀ (s r : State) (id : Octet) (payload : List Octet), s.txBusy = false → r.rxSt = .hunt →
    payload.length ≤ r.cfgMaxlen.toNat →
    ∃ (t u : State) (emitted : List Octet),
      Performs s (txFrame id payload) t ∧ t.txout = s.txout ++ emitted ∧
      Performs r (rxBytes emitted) u ∧ u.rxSt = .done ∧ u.rxCmdid = id ∧ u.rxLen.toNat = payload.length ∧
      u.rxMatch = true ∧ (emitted.drop (u.rxPstart - r.rxPos).toNat).take u.rxLen.toNat = payload

/-! ## The whole machine -/

/-- The invariants that the spec derives (R39) hold at reset. -/
def Obligations.ResetMeetsTheInvariants : Prop := Inv State.reset

/-- Every step keeps the invariants that the spec derives (R39), from every state that meets them; and a length that a
step accepts is at most CFG_MAXLEN then. -/
def Obligations.EveryStepKeepsTheInvariants : Prop :=
  ∀ s t : State, Inv s → step s = .next t →
    Inv t ∧ (s.rxSt = .lenHi → t.rxSt = .payload ∨ t.rxSt = .crcLo → t.rxLen.toNat ≤ s.cfgMaxlen.toNat)

/-- TXOUT only grows, and only TX.START, TX.DATA and TX.RAW append to it (R36). -/
def Obligations.TxoutOnlyGrows : Prop :=
  (∀ s t : State, step s = .next t → s.txout <+: t.txout) ∧
  (∀ (i : Instr) (s t : State), exec i s = .next t → t.txout ≠ s.txout →
    (∃ id len, i = .txStart id len) ∨ (∃ d, i = .txData d) ∨ (∃ d, i = .txRaw d))

/-- A write returns nothing and a read returns one RDATA (R50). -/
def Obligations.OneRdataPerRead : Prop :=
  ∀ (s t : State) (a : AccessWord), step (s.present a) = .next t →
    (isWrite a = true → t.rdata = s.rdata) ∧ (isWrite a = false → ∃ v : Word, t.rdata = s.rdata ++ [v])

/-- DATA, the fields of CONFIG and the standalone accumulators change only by their writers (R22, R23, R24, R26, R27). -/
def Obligations.HostElementsChangeOnlyByTheirWriters : Prop :=
  ∀ (i : Instr) (s t : State), exec i s = .next t → i ≠ .sreset →
    (t.data ≠ s.data → ∃ v, i = .wrData v) ∧
    (t.cfgSkip ≠ s.cfgSkip ∨ t.cfgMaxlen ≠ s.cfgMaxlen → ∃ v, i = .wrConfig v) ∧
    (t.crc16 ≠ s.crc16 → i = .crc16Init ∨ i = .crc16Feed4 ∨ ∃ d, i = .crc16Feed d) ∧
    (t.crc32 ≠ s.crc32 → i = .crc32Init ∨ i = .crc32Feed4 ∨ ∃ d, i = .crc32Feed d)

/-- The framers' elements change only by their own commands: the receive framer by RX.RESET and RX.PUSH, the transmit
framer by TX.START, TX.DATA and TX.ABORT, and both by SRESET (R28, R30, R35). -/
def Obligations.FramerElementsChangeOnlyByTheirCommands : Prop :=
  ∀ (i : Instr) (s t : State), exec i s = .next t → i ≠ .sreset →
    ((i ≠ .rxReset ∧ ∀ d, i ≠ .rxPush d) →
      t.rxSt = s.rxSt ∧ t.rxSkiprem = s.rxSkiprem ∧ t.rxCmdid = s.rxCmdid ∧ t.rxLen = s.rxLen ∧
      t.rxPcount = s.rxPcount ∧ t.rxCrcRecv = s.rxCrcRecv ∧ t.rxCrc = s.rxCrc ∧ t.rxMatch = s.rxMatch ∧
      t.rxLenerr = s.rxLenerr ∧ t.rxClass = s.rxClass ∧ t.rxLast = s.rxLast ∧ t.rxPos = s.rxPos ∧
      t.rxPstart = s.rxPstart) ∧
    ((i ≠ .txAbort ∧ (∀ d, i ≠ .txData d) ∧ ∀ id len, i ≠ .txStart id len) →
      t.txBusy = s.txBusy ∧ t.txRem = s.txRem ∧ t.txCrc = s.txCrc)

/-- What sets and what clears each of the four flags (R38). -/
def Obligations.FlagsChangeOnlyAsR38Lists : Prop :=
  ∀ (s t : State) (a : AccessWord), step (s.present a) = .next t →
    (s.err = false → (t.err = true ↔ firstFailingCheck s a ≠ .none)) ∧
    (s.err = true → (t.err = false ↔ decode a = .ok .clrerr ∨ decode a = .ok .sreset)) ∧
    (s.rxMatch = false → (t.rxMatch = true ↔
      ∃ d, decode a = .ok (.rxPush d) ∧ s.rxSt = .crcHi ∧ d ++ s.rxCrcRecv.extractLsb' 0 8 = s.rxCrc)) ∧
    (s.rxMatch = true → (t.rxMatch = false ↔
      (∃ d, decode a = .ok (.rxPush d) ∧ s.rxSt = .crcHi ∧ d ++ s.rxCrcRecv.extractLsb' 0 8 ≠ s.rxCrc) ∨
      (decode a = .ok (.rxPush 0x02#8) ∧ s.rxSt = .hunt) ∨ decode a = .ok .rxReset ∨ decode a = .ok .sreset)) ∧
    (s.rxLenerr = false → (t.rxLenerr = true ↔
      ∃ d, decode a = .ok (.rxPush d) ∧ s.rxSt = .lenHi ∧
        s.cfgMaxlen.toNat < (d ++ s.rxLen.extractLsb' 0 8).toNat)) ∧
    (s.rxLenerr = true → (t.rxLenerr = false ↔ decode a = .ok .rxReset ∨ decode a = .ok .sreset)) ∧
    (s.txBusy = false → (t.txBusy = true ↔ ∃ id len, decode a = .ok (.txStart id len) ∧ 0 < len.toNat)) ∧
    (s.txBusy = true → (t.txBusy = false ↔
      (∃ d, decode a = .ok (.txData d) ∧ s.txRem.toNat = 1) ∨ decode a = .ok .txAbort ∨ decode a = .ok .sreset))

/-- What the transmit framer emits and becomes does not depend on the receive framer, the CRC engines, the registers or
the error record: states that agree on TX_BUSY, TX_REM, TXCRC and TXOUT agree on them after the same operation (D8). -/
def Obligations.TransmitterIndependentOfTheRest : Prop :=
  ∀ (a : AccessWord) (s s' t t' : State),
    s.txBusy = s'.txBusy → s.txRem = s'.txRem → s.txCrc = s'.txCrc → s.txout = s'.txout →
    step (s.present a) = .next t → step (s'.present a) = .next t' →
    t.txBusy = t'.txBusy ∧ t.txRem = t'.txRem ∧ t.txCrc = t'.txCrc ∧ t.txout = t'.txout

/-- What the receive framer becomes does not depend on the transmit framer, the CRC engines, DATA or the error record:
states that agree on CONFIG and the receive elements agree on them after the same operation (D8). -/
def Obligations.ReceiverIndependentOfTheRest : Prop :=
  ∀ (a : AccessWord) (s s' t t' : State),
    (∀ r ∈ [RegName.config, .rxHdr, .rxChk, .rxCnt, .rxResult, .rxPos, .rxPstart], image s r = image s' r) →
    s.rxSt = s'.rxSt → s.rxMatch = s'.rxMatch → s.rxLenerr = s'.rxLenerr →
    step (s.present a) = .next t → step (s'.present a) = .next t' →
    (∀ r ∈ [RegName.config, .rxHdr, .rxChk, .rxCnt, .rxResult, .rxPos, .rxPstart], image t r = image t' r) ∧
    t.rxSt = t'.rxSt ∧ t.rxMatch = t'.rxMatch ∧ t.rxLenerr = t'.rxLenerr
end

