-- ==== Sys2Proof/Laws/Crc.lean ====
section
/-! SUPPORT. The linearity of the two CRC bit loops over XOR, and what they do to an octet that only shifts. -/

namespace Sys2Proof.Machine

theorem xor_cancel_right {n : Nat} (x y p : BitVec n) : x ^^^ p ^^^ (y ^^^ p) = x ^^^ y := by
  apply BitVec.eq_of_getLsbD_eq
  intro i _
  simp only [BitVec.getLsbD_xor]
  cases x.getLsbD i <;> cases y.getLsbD i <;> cases p.getLsbD i <;> rfl

/-! ## CRC-16 -/

theorem bit16_eq (c : Half) : bit16 c = (c <<< 1) ^^^ (if c.getLsbD 15 then Config.crc16Poly else 0#16) := by
  unfold bit16; split <;> simp

theorem bit16_xor (a b : Half) : bit16 (a ^^^ b) = bit16 a ^^^ bit16 b := by
  simp only [bit16_eq, BitVec.shiftLeft_xor_distrib, BitVec.getLsbD_xor]
  cases a.getLsbD 15 <;> cases b.getLsbD 15 <;> simp [xor_cancel_right] <;> ac_rfl

theorem repeat_bit16_xor (n : Nat) (a b : Half) :
    Nat.repeat bit16 n (a ^^^ b) = Nat.repeat bit16 n a ^^^ Nat.repeat bit16 n b := by
  induction n with
  | zero => rfl
  | succ n ih => simp only [Nat.repeat, ih, bit16_xor]

/-- An octet in the low half only shifts up. -/
theorem repeat_bit16_low (o : Octet) : Nat.repeat bit16 8 (o.setWidth 16) = o.setWidth 16 <<< 8 := by
  revert o; decide

/-- The register with an octet added, split into the part that is divided and the part that shifts. -/
theorem feed16_split (c : Half) (o : Octet) :
    c ^^^ (o.setWidth 16 <<< 8) =
      ((c.extractLsb' 8 8 ^^^ o).setWidth 16 <<< 8) ^^^ (c.extractLsb' 0 8).setWidth 16 := by
  apply BitVec.eq_of_getLsbD_eq
  intro i hi
  by_cases h : i < 8
  · simp [h, hi]
  · have h1 : i - 8 < 8 := by omega
    have h2 : 8 + (i - 8) = i := by omega
    simp [h, hi, h1, h2]

/-! ## CRC-32 -/

theorem bit32_eq (c : Word) : bit32 c = (c >>> 1) ^^^ (if c.getLsbD 0 then Config.crc32Poly else 0#32) := by
  unfold bit32; split <;> simp

theorem bit32_xor (a b : Word) : bit32 (a ^^^ b) = bit32 a ^^^ bit32 b := by
  simp only [bit32_eq, BitVec.ushiftRight_xor_distrib, BitVec.getLsbD_xor]
  cases a.getLsbD 0 <;> cases b.getLsbD 0 <;> simp [xor_cancel_right] <;> ac_rfl

theorem repeat_bit32_xor (n : Nat) (a b : Word) :
    Nat.repeat bit32 n (a ^^^ b) = Nat.repeat bit32 n a ^^^ Nat.repeat bit32 n b := by
  induction n with
  | zero => rfl
  | succ n ih => simp only [Nat.repeat, ih, bit32_xor]

/-- A register whose low bits are 0 only shifts down. -/
theorem repeat_bit32_high (y : Word) (n : Nat) (h : ∀ k < n, y.getLsbD k = false) :
    Nat.repeat bit32 n y = y >>> n := by
  induction n with
  | zero => simp [Nat.repeat]
  | succ n ih =>
    have hn := h n (by omega)
    rw [Nat.repeat, ih (fun k hk => h k (by omega)), bit32_eq]
    simp [hn, BitVec.shiftRight_add]

/-- Feeding the complement of a part of the register replaces that part by a constant. -/
theorem step32_complement (c x : Word) :
    step32 (c ^^^ x) (~~~ (x.extractLsb' 0 8)) = step32 c 0xFF#8 ^^^ (x >>> 8) := by
  have h : (c ^^^ x).extractLsb' 0 8 ^^^ ~~~ (x.extractLsb' 0 8) = c.extractLsb' 0 8 ^^^ 0xFF#8 := by
    rw [show (0xFF#8) = BitVec.allOnes 8 from rfl]
    apply BitVec.eq_of_getLsbD_eq
    intro i hi
    simp only [BitVec.getLsbD_xor, BitVec.getLsbD_extractLsb', BitVec.getLsbD_not, BitVec.getLsbD_allOnes, hi,
      decide_true, Bool.true_and, Nat.zero_add]
    cases c.getLsbD i <;> cases x.getLsbD i <;> rfl
  unfold step32
  rw [h, BitVec.ushiftRight_xor_distrib]
  ac_rfl

/-- The CRC-16 of a sequence with one octet more. -/
theorem crc16Of_snoc (a : List Octet) (o : Octet) : crc16Of (a ++ [o]) = step16 (crc16Of a) o := by
  simp [crc16Of, crc16From]

end Sys2Proof.Machine
end

