-- ==== Sys2Proof/Laws/Decode.lean ====
section
/-! SUPPORT. The fields of encoded words: each field of a word built from fields is that field, and a word is built from
its fields. -/

namespace Sys2Proof

@[simp] theorem accWE_accWrite (off : Octet) (w : Word) : accWE (accWrite off w) = true := by
  have h : (1#1 ++ off ++ w).getLsbD 40 = true := by
    rw [BitVec.getLsbD_append, BitVec.getLsbD_append]; simp
  exact h

@[simp] theorem accWE_accRead (off : Octet) : accWE (accRead off) = false := by
  have h : (0#1 ++ off ++ 0#32).getLsbD 40 = false := by
    rw [BitVec.getLsbD_append, BitVec.getLsbD_append]; simp
  exact h

/-- The fields of an access word given by its three parts. -/
theorem accFields (we : BitVec 1) (off : Octet) (w : Word) :
    accWE (we ++ off ++ w) = we.getLsbD 0 ∧ accOff (we ++ off ++ w) = off ∧ accData (we ++ off ++ w) = w := by
  refine ⟨?_, ?_, ?_⟩
  · change (we ++ off ++ w).getLsbD 40 = _
    rw [BitVec.getLsbD_append, BitVec.getLsbD_append]; simp
  · change (we ++ off ++ w).extractLsb' 32 8 = off
    rw [BitVec.extractLsb'_append_eq_of_le (by omega)]
    exact BitVec.extractLsb'_append_eq_right
  · change (we ++ off ++ w).extractLsb' 0 32 = w
    exact BitVec.extractLsb'_append_eq_right

@[simp] theorem accOff_accWrite (off : Octet) (w : Word) : accOff (accWrite off w) = off := (accFields _ _ _).2.1
@[simp] theorem accData_accWrite (off : Octet) (w : Word) : accData (accWrite off w) = w := (accFields _ _ _).2.2
@[simp] theorem accOff_accRead (off : Octet) : accOff (accRead off) = off := (accFields _ _ _).2.1

/-- An access word is its three parts. -/
theorem acc_eta (a : AccessWord) : a = (BitVec.ofBool (accWE a) ++ accOff a ++ accData a : BitVec 41) := by
  apply BitVec.eq_of_getLsbD_eq
  intro i hi
  change a.getLsbD i = (BitVec.ofBool (accWE a) ++ accOff a ++ accData a).getLsbD i
  rw [BitVec.getLsbD_append, BitVec.getLsbD_append]
  by_cases h1 : i < 32
  · simp [h1, accData]
  · by_cases h2 : i - 32 < 8
    · have : 32 + (i - 32) = i := by omega
      simp [h1, h2, accOff, this]
    · have : i = 40 := by omega
      subst this
      simp [accWE]

/-- The fields of a command word given by its three parts. -/
theorem cmdFields (hi : Half) (d op : Octet) :
    cmdOp (hi ++ d ++ op) = op ∧ cmdD (hi ++ d ++ op) = d ∧ cmdId (hi ++ d ++ op) = d ∧ cmdLen (hi ++ d ++ op) = hi := by
  have h1 : (hi ++ d ++ op).extractLsb' 8 8 = d := by
    rw [BitVec.extractLsb'_append_eq_of_le (by omega)]
    exact BitVec.extractLsb'_append_eq_right
  refine ⟨?_, h1, h1, ?_⟩
  · change (hi ++ d ++ op).extractLsb' 0 8 = op
    exact BitVec.extractLsb'_append_eq_right
  · change (hi ++ d ++ op).extractLsb' 16 16 = hi
    rw [BitVec.extractLsb'_append_eq_of_le (by omega), BitVec.extractLsb'_append_eq_of_le (by omega)]
    simp

@[simp] theorem cmdOp_wordB (d op : Octet) : cmdOp (wordB d op) = op := (cmdFields _ _ _).1
@[simp] theorem cmdD_wordB (d op : Octet) : cmdD (wordB d op) = d := (cmdFields _ _ _).2.1
@[simp] theorem cmdOp_wordH (len : Half) (id op : Octet) : cmdOp (wordH len id op) = op := (cmdFields _ _ _).1
@[simp] theorem cmdId_wordH (len : Half) (id op : Octet) : cmdId (wordH len id op) = id := (cmdFields _ _ _).2.2.1
@[simp] theorem cmdLen_wordH (len : Half) (id op : Octet) : cmdLen (wordH len id op) = len := (cmdFields _ _ _).2.2.2

@[simp] theorem cmdOp_wordN (op : Octet) : cmdOp (wordN op) = op := by
  change (0#24 ++ op).extractLsb' 0 8 = op
  exact BitVec.extractLsb'_append_eq_right

@[simp] theorem reservedClear_wordN (op : Octet) : reservedClear .N (wordN op) = true := by
  change ((0#24 ++ op).extractLsb' 8 24 == 0#24) = true
  rw [BitVec.extractLsb'_append_eq_of_le (by omega)]
  simp

@[simp] theorem reservedClear_wordB (d op : Octet) : reservedClear .B (wordB d op) = true := by
  change ((0#16 ++ d ++ op).extractLsb' 16 16 == 0#16) = true
  rw [BitVec.extractLsb'_append_eq_of_le (by omega), BitVec.extractLsb'_append_eq_of_le (by omega)]
  simp

@[simp] theorem reservedClear_H (w : Word) : reservedClear .H w = true := rfl

/-- A command word is its three parts. -/
theorem cmd_eta (w : Word) : w = (cmdLen w ++ cmdD w ++ cmdOp w : BitVec 32) := by
  apply BitVec.eq_of_getLsbD_eq
  intro i hi
  change w.getLsbD i = (cmdLen w ++ cmdD w ++ cmdOp w).getLsbD i
  rw [BitVec.getLsbD_append, BitVec.getLsbD_append]
  by_cases h1 : i < 8
  · simp [h1, cmdOp]
  · by_cases h2 : i - 8 < 8
    · have : 8 + (i - 8) = i := by omega
      simp [h1, h2, cmdD, this]
    · have h3 : i - 8 - 8 < 16 := by omega
      have : 16 + (i - 8 - 8) = i := by omega
      simp [h1, h2, h3, cmdLen, this]

end Sys2Proof
end

