-- ==== Sys2Proof/Laws/State.lean ====
section
/-! SUPPORT. One lemma per field for each shared update of State. -/

namespace Sys2Proof.Machine

/-! ### raise -/

@[simp] theorem State.raise_data (s : State) (e : ErrCode) : (s.raise e).data = s.data := rfl
@[simp] theorem State.raise_cfgSkip (s : State) (e : ErrCode) : (s.raise e).cfgSkip = s.cfgSkip := rfl
@[simp] theorem State.raise_cfgMaxlen (s : State) (e : ErrCode) : (s.raise e).cfgMaxlen = s.cfgMaxlen := rfl
@[simp] theorem State.raise_crc16 (s : State) (e : ErrCode) : (s.raise e).crc16 = s.crc16 := rfl
@[simp] theorem State.raise_crc32 (s : State) (e : ErrCode) : (s.raise e).crc32 = s.crc32 := rfl
@[simp] theorem State.raise_err (s : State) (e : ErrCode) : (s.raise e).err = true := rfl
@[simp] theorem State.raise_errcode (s : State) (e : ErrCode) : (s.raise e).errcode = firstError s e := rfl
@[simp] theorem State.raise_rxSt (s : State) (e : ErrCode) : (s.raise e).rxSt = s.rxSt := rfl
@[simp] theorem State.raise_rxSkiprem (s : State) (e : ErrCode) : (s.raise e).rxSkiprem = s.rxSkiprem := rfl
@[simp] theorem State.raise_rxCmdid (s : State) (e : ErrCode) : (s.raise e).rxCmdid = s.rxCmdid := rfl
@[simp] theorem State.raise_rxLen (s : State) (e : ErrCode) : (s.raise e).rxLen = s.rxLen := rfl
@[simp] theorem State.raise_rxPcount (s : State) (e : ErrCode) : (s.raise e).rxPcount = s.rxPcount := rfl
@[simp] theorem State.raise_rxCrcRecv (s : State) (e : ErrCode) : (s.raise e).rxCrcRecv = s.rxCrcRecv := rfl
@[simp] theorem State.raise_rxCrc (s : State) (e : ErrCode) : (s.raise e).rxCrc = s.rxCrc := rfl
@[simp] theorem State.raise_rxMatch (s : State) (e : ErrCode) : (s.raise e).rxMatch = s.rxMatch := rfl
@[simp] theorem State.raise_rxLenerr (s : State) (e : ErrCode) : (s.raise e).rxLenerr = s.rxLenerr := rfl
@[simp] theorem State.raise_rxClass (s : State) (e : ErrCode) : (s.raise e).rxClass = s.rxClass := rfl
@[simp] theorem State.raise_rxLast (s : State) (e : ErrCode) : (s.raise e).rxLast = s.rxLast := rfl
@[simp] theorem State.raise_rxPos (s : State) (e : ErrCode) : (s.raise e).rxPos = s.rxPos := rfl
@[simp] theorem State.raise_rxPstart (s : State) (e : ErrCode) : (s.raise e).rxPstart = s.rxPstart := rfl
@[simp] theorem State.raise_txBusy (s : State) (e : ErrCode) : (s.raise e).txBusy = s.txBusy := rfl
@[simp] theorem State.raise_txRem (s : State) (e : ErrCode) : (s.raise e).txRem = s.txRem := rfl
@[simp] theorem State.raise_txCrc (s : State) (e : ErrCode) : (s.raise e).txCrc = s.txCrc := rfl
@[simp] theorem State.raise_txout (s : State) (e : ErrCode) : (s.raise e).txout = s.txout := rfl
@[simp] theorem State.raise_rdata (s : State) (e : ErrCode) : (s.raise e).rdata = s.rdata := rfl
@[simp] theorem State.raise_pending (s : State) (e : ErrCode) : (s.raise e).pending = s.pending := rfl

/-! ### clearError -/

@[simp] theorem State.clearError_data (s : State) : s.clearError.data = s.data := rfl
@[simp] theorem State.clearError_cfgSkip (s : State) : s.clearError.cfgSkip = s.cfgSkip := rfl
@[simp] theorem State.clearError_cfgMaxlen (s : State) : s.clearError.cfgMaxlen = s.cfgMaxlen := rfl
@[simp] theorem State.clearError_crc16 (s : State) : s.clearError.crc16 = s.crc16 := rfl
@[simp] theorem State.clearError_crc32 (s : State) : s.clearError.crc32 = s.crc32 := rfl
@[simp] theorem State.clearError_err (s : State) : s.clearError.err = false := rfl
@[simp] theorem State.clearError_errcode (s : State) : s.clearError.errcode = .none := rfl
@[simp] theorem State.clearError_rxSt (s : State) : s.clearError.rxSt = s.rxSt := rfl
@[simp] theorem State.clearError_rxSkiprem (s : State) : s.clearError.rxSkiprem = s.rxSkiprem := rfl
@[simp] theorem State.clearError_rxCmdid (s : State) : s.clearError.rxCmdid = s.rxCmdid := rfl
@[simp] theorem State.clearError_rxLen (s : State) : s.clearError.rxLen = s.rxLen := rfl
@[simp] theorem State.clearError_rxPcount (s : State) : s.clearError.rxPcount = s.rxPcount := rfl
@[simp] theorem State.clearError_rxCrcRecv (s : State) : s.clearError.rxCrcRecv = s.rxCrcRecv := rfl
@[simp] theorem State.clearError_rxCrc (s : State) : s.clearError.rxCrc = s.rxCrc := rfl
@[simp] theorem State.clearError_rxMatch (s : State) : s.clearError.rxMatch = s.rxMatch := rfl
@[simp] theorem State.clearError_rxLenerr (s : State) : s.clearError.rxLenerr = s.rxLenerr := rfl
@[simp] theorem State.clearError_rxClass (s : State) : s.clearError.rxClass = s.rxClass := rfl
@[simp] theorem State.clearError_rxLast (s : State) : s.clearError.rxLast = s.rxLast := rfl
@[simp] theorem State.clearError_rxPos (s : State) : s.clearError.rxPos = s.rxPos := rfl
@[simp] theorem State.clearError_rxPstart (s : State) : s.clearError.rxPstart = s.rxPstart := rfl
@[simp] theorem State.clearError_txBusy (s : State) : s.clearError.txBusy = s.txBusy := rfl
@[simp] theorem State.clearError_txRem (s : State) : s.clearError.txRem = s.txRem := rfl
@[simp] theorem State.clearError_txCrc (s : State) : s.clearError.txCrc = s.txCrc := rfl
@[simp] theorem State.clearError_txout (s : State) : s.clearError.txout = s.txout := rfl
@[simp] theorem State.clearError_rdata (s : State) : s.clearError.rdata = s.rdata := rfl
@[simp] theorem State.clearError_pending (s : State) : s.clearError.pending = s.pending := rfl

/-! ### emit -/

@[simp] theorem State.emit_data (s : State) (os : List Octet) : (s.emit os).data = s.data := rfl
@[simp] theorem State.emit_cfgSkip (s : State) (os : List Octet) : (s.emit os).cfgSkip = s.cfgSkip := rfl
@[simp] theorem State.emit_cfgMaxlen (s : State) (os : List Octet) : (s.emit os).cfgMaxlen = s.cfgMaxlen := rfl
@[simp] theorem State.emit_crc16 (s : State) (os : List Octet) : (s.emit os).crc16 = s.crc16 := rfl
@[simp] theorem State.emit_crc32 (s : State) (os : List Octet) : (s.emit os).crc32 = s.crc32 := rfl
@[simp] theorem State.emit_err (s : State) (os : List Octet) : (s.emit os).err = s.err := rfl
@[simp] theorem State.emit_errcode (s : State) (os : List Octet) : (s.emit os).errcode = s.errcode := rfl
@[simp] theorem State.emit_rxSt (s : State) (os : List Octet) : (s.emit os).rxSt = s.rxSt := rfl
@[simp] theorem State.emit_rxSkiprem (s : State) (os : List Octet) : (s.emit os).rxSkiprem = s.rxSkiprem := rfl
@[simp] theorem State.emit_rxCmdid (s : State) (os : List Octet) : (s.emit os).rxCmdid = s.rxCmdid := rfl
@[simp] theorem State.emit_rxLen (s : State) (os : List Octet) : (s.emit os).rxLen = s.rxLen := rfl
@[simp] theorem State.emit_rxPcount (s : State) (os : List Octet) : (s.emit os).rxPcount = s.rxPcount := rfl
@[simp] theorem State.emit_rxCrcRecv (s : State) (os : List Octet) : (s.emit os).rxCrcRecv = s.rxCrcRecv := rfl
@[simp] theorem State.emit_rxCrc (s : State) (os : List Octet) : (s.emit os).rxCrc = s.rxCrc := rfl
@[simp] theorem State.emit_rxMatch (s : State) (os : List Octet) : (s.emit os).rxMatch = s.rxMatch := rfl
@[simp] theorem State.emit_rxLenerr (s : State) (os : List Octet) : (s.emit os).rxLenerr = s.rxLenerr := rfl
@[simp] theorem State.emit_rxClass (s : State) (os : List Octet) : (s.emit os).rxClass = s.rxClass := rfl
@[simp] theorem State.emit_rxLast (s : State) (os : List Octet) : (s.emit os).rxLast = s.rxLast := rfl
@[simp] theorem State.emit_rxPos (s : State) (os : List Octet) : (s.emit os).rxPos = s.rxPos := rfl
@[simp] theorem State.emit_rxPstart (s : State) (os : List Octet) : (s.emit os).rxPstart = s.rxPstart := rfl
@[simp] theorem State.emit_txBusy (s : State) (os : List Octet) : (s.emit os).txBusy = s.txBusy := rfl
@[simp] theorem State.emit_txRem (s : State) (os : List Octet) : (s.emit os).txRem = s.txRem := rfl
@[simp] theorem State.emit_txCrc (s : State) (os : List Octet) : (s.emit os).txCrc = s.txCrc := rfl
@[simp] theorem State.emit_txout (s : State) (os : List Octet) : (s.emit os).txout = s.txout ++ os := rfl
@[simp] theorem State.emit_rdata (s : State) (os : List Octet) : (s.emit os).rdata = s.rdata := rfl
@[simp] theorem State.emit_pending (s : State) (os : List Octet) : (s.emit os).pending = s.pending := rfl

/-! ### returnRead -/

@[simp] theorem State.returnRead_data (s : State) (v : Word) : (s.returnRead v).data = s.data := rfl
@[simp] theorem State.returnRead_cfgSkip (s : State) (v : Word) : (s.returnRead v).cfgSkip = s.cfgSkip := rfl
@[simp] theorem State.returnRead_cfgMaxlen (s : State) (v : Word) : (s.returnRead v).cfgMaxlen = s.cfgMaxlen := rfl
@[simp] theorem State.returnRead_crc16 (s : State) (v : Word) : (s.returnRead v).crc16 = s.crc16 := rfl
@[simp] theorem State.returnRead_crc32 (s : State) (v : Word) : (s.returnRead v).crc32 = s.crc32 := rfl
@[simp] theorem State.returnRead_err (s : State) (v : Word) : (s.returnRead v).err = s.err := rfl
@[simp] theorem State.returnRead_errcode (s : State) (v : Word) : (s.returnRead v).errcode = s.errcode := rfl
@[simp] theorem State.returnRead_rxSt (s : State) (v : Word) : (s.returnRead v).rxSt = s.rxSt := rfl
@[simp] theorem State.returnRead_rxSkiprem (s : State) (v : Word) : (s.returnRead v).rxSkiprem = s.rxSkiprem := rfl
@[simp] theorem State.returnRead_rxCmdid (s : State) (v : Word) : (s.returnRead v).rxCmdid = s.rxCmdid := rfl
@[simp] theorem State.returnRead_rxLen (s : State) (v : Word) : (s.returnRead v).rxLen = s.rxLen := rfl
@[simp] theorem State.returnRead_rxPcount (s : State) (v : Word) : (s.returnRead v).rxPcount = s.rxPcount := rfl
@[simp] theorem State.returnRead_rxCrcRecv (s : State) (v : Word) : (s.returnRead v).rxCrcRecv = s.rxCrcRecv := rfl
@[simp] theorem State.returnRead_rxCrc (s : State) (v : Word) : (s.returnRead v).rxCrc = s.rxCrc := rfl
@[simp] theorem State.returnRead_rxMatch (s : State) (v : Word) : (s.returnRead v).rxMatch = s.rxMatch := rfl
@[simp] theorem State.returnRead_rxLenerr (s : State) (v : Word) : (s.returnRead v).rxLenerr = s.rxLenerr := rfl
@[simp] theorem State.returnRead_rxClass (s : State) (v : Word) : (s.returnRead v).rxClass = s.rxClass := rfl
@[simp] theorem State.returnRead_rxLast (s : State) (v : Word) : (s.returnRead v).rxLast = s.rxLast := rfl
@[simp] theorem State.returnRead_rxPos (s : State) (v : Word) : (s.returnRead v).rxPos = s.rxPos := rfl
@[simp] theorem State.returnRead_rxPstart (s : State) (v : Word) : (s.returnRead v).rxPstart = s.rxPstart := rfl
@[simp] theorem State.returnRead_txBusy (s : State) (v : Word) : (s.returnRead v).txBusy = s.txBusy := rfl
@[simp] theorem State.returnRead_txRem (s : State) (v : Word) : (s.returnRead v).txRem = s.txRem := rfl
@[simp] theorem State.returnRead_txCrc (s : State) (v : Word) : (s.returnRead v).txCrc = s.txCrc := rfl
@[simp] theorem State.returnRead_txout (s : State) (v : Word) : (s.returnRead v).txout = s.txout := rfl
@[simp] theorem State.returnRead_rdata (s : State) (v : Word) : (s.returnRead v).rdata = s.rdata ++ [v] := rfl
@[simp] theorem State.returnRead_pending (s : State) (v : Word) : (s.returnRead v).pending = s.pending := rfl

/-! ### readReg -/

@[simp] theorem State.readReg_data (s : State) (r : RegName) : (s.readReg r).data = s.data := rfl
@[simp] theorem State.readReg_cfgSkip (s : State) (r : RegName) : (s.readReg r).cfgSkip = s.cfgSkip := rfl
@[simp] theorem State.readReg_cfgMaxlen (s : State) (r : RegName) : (s.readReg r).cfgMaxlen = s.cfgMaxlen := rfl
@[simp] theorem State.readReg_crc16 (s : State) (r : RegName) : (s.readReg r).crc16 = s.crc16 := rfl
@[simp] theorem State.readReg_crc32 (s : State) (r : RegName) : (s.readReg r).crc32 = s.crc32 := rfl
@[simp] theorem State.readReg_err (s : State) (r : RegName) : (s.readReg r).err = s.err := rfl
@[simp] theorem State.readReg_errcode (s : State) (r : RegName) : (s.readReg r).errcode = s.errcode := rfl
@[simp] theorem State.readReg_rxSt (s : State) (r : RegName) : (s.readReg r).rxSt = s.rxSt := rfl
@[simp] theorem State.readReg_rxSkiprem (s : State) (r : RegName) : (s.readReg r).rxSkiprem = s.rxSkiprem := rfl
@[simp] theorem State.readReg_rxCmdid (s : State) (r : RegName) : (s.readReg r).rxCmdid = s.rxCmdid := rfl
@[simp] theorem State.readReg_rxLen (s : State) (r : RegName) : (s.readReg r).rxLen = s.rxLen := rfl
@[simp] theorem State.readReg_rxPcount (s : State) (r : RegName) : (s.readReg r).rxPcount = s.rxPcount := rfl
@[simp] theorem State.readReg_rxCrcRecv (s : State) (r : RegName) : (s.readReg r).rxCrcRecv = s.rxCrcRecv := rfl
@[simp] theorem State.readReg_rxCrc (s : State) (r : RegName) : (s.readReg r).rxCrc = s.rxCrc := rfl
@[simp] theorem State.readReg_rxMatch (s : State) (r : RegName) : (s.readReg r).rxMatch = s.rxMatch := rfl
@[simp] theorem State.readReg_rxLenerr (s : State) (r : RegName) : (s.readReg r).rxLenerr = s.rxLenerr := rfl
@[simp] theorem State.readReg_rxClass (s : State) (r : RegName) : (s.readReg r).rxClass = s.rxClass := rfl
@[simp] theorem State.readReg_rxLast (s : State) (r : RegName) : (s.readReg r).rxLast = s.rxLast := rfl
@[simp] theorem State.readReg_rxPos (s : State) (r : RegName) : (s.readReg r).rxPos = s.rxPos := rfl
@[simp] theorem State.readReg_rxPstart (s : State) (r : RegName) : (s.readReg r).rxPstart = s.rxPstart := rfl
@[simp] theorem State.readReg_txBusy (s : State) (r : RegName) : (s.readReg r).txBusy = s.txBusy := rfl
@[simp] theorem State.readReg_txRem (s : State) (r : RegName) : (s.readReg r).txRem = s.txRem := rfl
@[simp] theorem State.readReg_txCrc (s : State) (r : RegName) : (s.readReg r).txCrc = s.txCrc := rfl
@[simp] theorem State.readReg_txout (s : State) (r : RegName) : (s.readReg r).txout = s.txout := rfl
@[simp] theorem State.readReg_rdata (s : State) (r : RegName) : (s.readReg r).rdata = s.rdata ++ [image s r] := rfl
@[simp] theorem State.readReg_pending (s : State) (r : RegName) : (s.readReg r).pending = s.pending := rfl

/-! ### present -/

@[simp] theorem State.present_data (s : State) (a : AccessWord) : (s.present a).data = s.data := rfl
@[simp] theorem State.present_cfgSkip (s : State) (a : AccessWord) : (s.present a).cfgSkip = s.cfgSkip := rfl
@[simp] theorem State.present_cfgMaxlen (s : State) (a : AccessWord) : (s.present a).cfgMaxlen = s.cfgMaxlen := rfl
@[simp] theorem State.present_crc16 (s : State) (a : AccessWord) : (s.present a).crc16 = s.crc16 := rfl
@[simp] theorem State.present_crc32 (s : State) (a : AccessWord) : (s.present a).crc32 = s.crc32 := rfl
@[simp] theorem State.present_err (s : State) (a : AccessWord) : (s.present a).err = s.err := rfl
@[simp] theorem State.present_errcode (s : State) (a : AccessWord) : (s.present a).errcode = s.errcode := rfl
@[simp] theorem State.present_rxSt (s : State) (a : AccessWord) : (s.present a).rxSt = s.rxSt := rfl
@[simp] theorem State.present_rxSkiprem (s : State) (a : AccessWord) : (s.present a).rxSkiprem = s.rxSkiprem := rfl
@[simp] theorem State.present_rxCmdid (s : State) (a : AccessWord) : (s.present a).rxCmdid = s.rxCmdid := rfl
@[simp] theorem State.present_rxLen (s : State) (a : AccessWord) : (s.present a).rxLen = s.rxLen := rfl
@[simp] theorem State.present_rxPcount (s : State) (a : AccessWord) : (s.present a).rxPcount = s.rxPcount := rfl
@[simp] theorem State.present_rxCrcRecv (s : State) (a : AccessWord) : (s.present a).rxCrcRecv = s.rxCrcRecv := rfl
@[simp] theorem State.present_rxCrc (s : State) (a : AccessWord) : (s.present a).rxCrc = s.rxCrc := rfl
@[simp] theorem State.present_rxMatch (s : State) (a : AccessWord) : (s.present a).rxMatch = s.rxMatch := rfl
@[simp] theorem State.present_rxLenerr (s : State) (a : AccessWord) : (s.present a).rxLenerr = s.rxLenerr := rfl
@[simp] theorem State.present_rxClass (s : State) (a : AccessWord) : (s.present a).rxClass = s.rxClass := rfl
@[simp] theorem State.present_rxLast (s : State) (a : AccessWord) : (s.present a).rxLast = s.rxLast := rfl
@[simp] theorem State.present_rxPos (s : State) (a : AccessWord) : (s.present a).rxPos = s.rxPos := rfl
@[simp] theorem State.present_rxPstart (s : State) (a : AccessWord) : (s.present a).rxPstart = s.rxPstart := rfl
@[simp] theorem State.present_txBusy (s : State) (a : AccessWord) : (s.present a).txBusy = s.txBusy := rfl
@[simp] theorem State.present_txRem (s : State) (a : AccessWord) : (s.present a).txRem = s.txRem := rfl
@[simp] theorem State.present_txCrc (s : State) (a : AccessWord) : (s.present a).txCrc = s.txCrc := rfl
@[simp] theorem State.present_txout (s : State) (a : AccessWord) : (s.present a).txout = s.txout := rfl
@[simp] theorem State.present_rdata (s : State) (a : AccessWord) : (s.present a).rdata = s.rdata := rfl
@[simp] theorem State.present_pending (s : State) (a : AccessWord) : (s.present a).pending = a :: s.pending := rfl

/-! ### resetElements -/

@[simp] theorem State.resetElements_data (s : State) : s.resetElements.data = State.reset.data := rfl
@[simp] theorem State.resetElements_cfgSkip (s : State) : s.resetElements.cfgSkip = State.reset.cfgSkip := rfl
@[simp] theorem State.resetElements_cfgMaxlen (s : State) : s.resetElements.cfgMaxlen = State.reset.cfgMaxlen := rfl
@[simp] theorem State.resetElements_crc16 (s : State) : s.resetElements.crc16 = State.reset.crc16 := rfl
@[simp] theorem State.resetElements_crc32 (s : State) : s.resetElements.crc32 = State.reset.crc32 := rfl
@[simp] theorem State.resetElements_err (s : State) : s.resetElements.err = State.reset.err := rfl
@[simp] theorem State.resetElements_errcode (s : State) : s.resetElements.errcode = State.reset.errcode := rfl
@[simp] theorem State.resetElements_rxSt (s : State) : s.resetElements.rxSt = State.reset.rxSt := rfl
@[simp] theorem State.resetElements_rxSkiprem (s : State) : s.resetElements.rxSkiprem = State.reset.rxSkiprem := rfl
@[simp] theorem State.resetElements_rxCmdid (s : State) : s.resetElements.rxCmdid = State.reset.rxCmdid := rfl
@[simp] theorem State.resetElements_rxLen (s : State) : s.resetElements.rxLen = State.reset.rxLen := rfl
@[simp] theorem State.resetElements_rxPcount (s : State) : s.resetElements.rxPcount = State.reset.rxPcount := rfl
@[simp] theorem State.resetElements_rxCrcRecv (s : State) : s.resetElements.rxCrcRecv = State.reset.rxCrcRecv := rfl
@[simp] theorem State.resetElements_rxCrc (s : State) : s.resetElements.rxCrc = State.reset.rxCrc := rfl
@[simp] theorem State.resetElements_rxMatch (s : State) : s.resetElements.rxMatch = State.reset.rxMatch := rfl
@[simp] theorem State.resetElements_rxLenerr (s : State) : s.resetElements.rxLenerr = State.reset.rxLenerr := rfl
@[simp] theorem State.resetElements_rxClass (s : State) : s.resetElements.rxClass = State.reset.rxClass := rfl
@[simp] theorem State.resetElements_rxLast (s : State) : s.resetElements.rxLast = State.reset.rxLast := rfl
@[simp] theorem State.resetElements_rxPos (s : State) : s.resetElements.rxPos = State.reset.rxPos := rfl
@[simp] theorem State.resetElements_rxPstart (s : State) : s.resetElements.rxPstart = State.reset.rxPstart := rfl
@[simp] theorem State.resetElements_txBusy (s : State) : s.resetElements.txBusy = State.reset.txBusy := rfl
@[simp] theorem State.resetElements_txRem (s : State) : s.resetElements.txRem = State.reset.txRem := rfl
@[simp] theorem State.resetElements_txCrc (s : State) : s.resetElements.txCrc = State.reset.txCrc := rfl
@[simp] theorem State.resetElements_txout (s : State) : s.resetElements.txout = s.txout := rfl
@[simp] theorem State.resetElements_rdata (s : State) : s.resetElements.rdata = s.rdata := rfl
@[simp] theorem State.resetElements_pending (s : State) : s.resetElements.pending = s.pending := rfl

end Sys2Proof.Machine
end

