-- ==== Sys2Proof/Laws/Ops.lean ====
section
/-! SUPPORT. What each shared operation, one access and one step can do, said once. -/

namespace Sys2Proof.Machine

open Sys2Proof.Safety

/-! ## Errors -/

/-- `raise` as R232 words it: the record is written if ERR was 0, and nothing changes otherwise. -/
theorem State.raise_cases (s : State) (e : ErrCode) :
    s.raise e = if s.err then s else { s with err := true, errcode := e } := by
  cases h : s.err
  · simp [State.raise, firstError, h]
  · rw [if_pos rfl]
    conv_rhs => rw [show s = { s with err := true, errcode := s.errcode } by rw [← h]]
    simp [State.raise, firstError, h]

/-- A rejected access: a write raises; a read returns 0 and raises. -/
theorem State.reject_cases (s : State) (a : AccessWord) (r : Reject) :
    (accWE a = true ∧ s.reject a r = s.raise (rejectCode r)) ∨
    (accWE a = false ∧ s.reject a r = (s.returnRead 0x00000000#32).raise (rejectCode r)) := by
  cases h : accWE a <;> simp [State.reject, h]

/-- A rejected access changes only the error record and, for a read, the RDATA returned. -/
theorem State.reject_frame (s : State) (a : AccessWord) (r : Reject) :
    ∃ rd e c, s.reject a r = { s with rdata := rd, err := e, errcode := c } := by
  rcases State.reject_cases s a r with ⟨_, h⟩ | ⟨_, h⟩ <;> exact ⟨_, _, _, h⟩

/-! ## Reset -/

/-- After a reset of the elements every register reads its reset image. -/
theorem image_resetElements (s : State) (r : RegName) : image s.resetElements r = image State.reset r := by
  cases r <;> rfl

/-! ## Access and step -/

theorem fetch_present (s : State) (a : AccessWord) : (s.present a).fetch = some (a, s) := rfl

/-- The step that performs an operation just supplied. -/
theorem step_present (s : State) (a : AccessWord) : step (s.present a) = perform a s := rfl

theorem step_cons (s : State) (a : AccessWord) (rest : List AccessWord) (h : s.pending = a :: rest) :
    step s = perform a { s with pending := rest } := by
  simp [step, State.fetch, h]

/-- Everything an access can do. -/
theorem perform_inv (a : AccessWord) (s t : State) (h : perform a s = .next t) :
    (∃ i, decode a = .ok i ∧ exec i s = .next t) ∨ (∃ r, decode a = .error r ∧ t = s.reject a r) := by
  unfold perform at h
  split at h
  · exact .inl ⟨_, ‹_›, h⟩
  · injection h with h
    exact .inr ⟨_, ‹_›, h.symm⟩

/-- Everything a step can do. -/
theorem step_inv (s t : State) (h : step s = .next t) :
    (s.pending = [] ∧ t = s) ∨
    (∃ a rest, s.pending = a :: rest ∧ perform a { s with pending := rest } = .next t) := by
  cases hp : s.pending with
  | nil =>
    simp only [step, State.fetch, hp, Host.Outcome.next.injEq] at h
    exact .inl ⟨rfl, h.symm⟩
  | cons a rest => exact .inr ⟨a, rest, rfl, step_cons s a rest hp ▸ h⟩

/-! ## Decoding -/

/-- Everything an accepted access can be. -/
theorem decode_ok_inv (a : AccessWord) (i : Instr) (h : decode a = .ok i) :
    aligned (accOff a) = true ∧
    ((accWE a = true ∧ decodeWrite (accOff a) (accData a) = .ok i) ∨
     (accWE a = false ∧ readRow (accOff a) = some i)) := by
  unfold decode at h
  split at h
  · refine ⟨‹_›, ?_⟩
    split at h
    · exact .inl ⟨‹_›, h⟩
    · refine .inr ⟨Bool.eq_false_iff.mpr ‹_›, ?_⟩
      unfold decodeRead at h
      split at h
      · injection h with h; rw [‹readRow _ = _›, h]
      · cases h
  · cases h

/-- Everything an accepted command word can be. -/
theorem decodeCmd_ok_inv (w : Word) (i : Instr) (h : decodeCmd w = .ok i) :
    ∃ f mk, cmdRow (cmdOp w) = some (f, mk) ∧ reservedClear f w = true ∧ i = mk w := by
  unfold decodeCmd at h
  split at h
  · cases h
  · split at h
    · injection h with h; exact ⟨_, _, ‹_›, ‹_›, h.symm⟩
    · cases h

/-! ## The receive framer -/

/-! A push in each RX_ST is that state's action, after RX_POS and RX_LAST are written. -/

theorem rxTake_skip (d : Octet) (s : State) (h : s.rxSt = .skip) :
    rxTake d s = rxInSkip { s with rxPos := s.rxPos + 1#32, rxLast := d } := by
  simp [rxTake, rxAction, h]
theorem rxTake_hunt (d : Octet) (s : State) (h : s.rxSt = .hunt) :
    rxTake d s = rxInHunt d { s with rxPos := s.rxPos + 1#32, rxLast := d } := by
  simp [rxTake, rxAction, h]
theorem rxTake_cmd (d : Octet) (s : State) (h : s.rxSt = .cmd) :
    rxTake d s = rxInCmd d { s with rxPos := s.rxPos + 1#32, rxLast := d } := by
  simp [rxTake, rxAction, h]
theorem rxTake_lenLo (d : Octet) (s : State) (h : s.rxSt = .lenLo) :
    rxTake d s = rxInLenLo d { s with rxPos := s.rxPos + 1#32, rxLast := d } := by
  simp [rxTake, rxAction, h]
theorem rxTake_lenHi (d : Octet) (s : State) (h : s.rxSt = .lenHi) :
    rxTake d s = rxInLenHi s.rxPos d { s with rxPos := s.rxPos + 1#32, rxLast := d } := by
  simp [rxTake, rxAction, h]
theorem rxTake_payload (d : Octet) (s : State) (h : s.rxSt = .payload) :
    rxTake d s = rxInPayload d { s with rxPos := s.rxPos + 1#32, rxLast := d } := by
  simp [rxTake, rxAction, h]
theorem rxTake_crcLo (d : Octet) (s : State) (h : s.rxSt = .crcLo) :
    rxTake d s = rxInCrcLo d { s with rxPos := s.rxPos + 1#32, rxLast := d } := by
  simp [rxTake, rxAction, h]
theorem rxTake_crcHi (d : Octet) (s : State) (h : s.rxSt = .crcHi) :
    rxTake d s = rxInCrcHi d { s with rxPos := s.rxPos + 1#32, rxLast := d } := by
  simp [rxTake, rxAction, h]
theorem rxTake_done (d : Octet) (s : State) (h : s.rxSt = .done) :
    rxTake d s = rxInDone { s with rxPos := s.rxPos + 1#32, rxLast := d } := by
  simp [rxTake, rxAction, h]

/-- LENHI as one update: what depends on the verdict on the length does so field by field. -/
theorem rxInLenHi_eq (p : Word) (d : Octet) (s : State) :
    rxInLenHi p d s = { s with
      rxLen := half d (lo8 s.rxLen), rxCrc := step16 s.rxCrc d
      rxLenerr := if lengthRejected (half d (lo8 s.rxLen)) s.cfgMaxlen then true else s.rxLenerr
      rxPstart := if lengthRejected (half d (lo8 s.rxLen)) s.cfgMaxlen then s.rxPstart else p + 1#32
      rxSt := if lengthRejected (half d (lo8 s.rxLen)) s.cfgMaxlen then .hunt
        else if half d (lo8 s.rxLen) = 0#16 then .crcLo else .payload
      rxClass := if lengthRejected (half d (lo8 s.rxLen)) s.cfgMaxlen then .lenRej else .lenHi } := by
  cases h : lengthRejected (half d (lo8 s.rxLen)) s.cfgMaxlen <;> simp [rxInLenHi, h]

/-- The verdict on a length is the unsigned comparison with CFG_MAXLEN. -/
theorem lengthRejected_iff (len maxlen : Half) : lengthRejected len maxlen = true ↔ maxlen.toNat < len.toNat := by
  simp [lengthRejected, BitVec.ult]

/-! ### Octets of 16-bit fields -/

@[simp] theorem lo8_append (hi lo : Octet) : lo8 (hi ++ lo : BitVec 16) = lo := by
  change (hi ++ lo).extractLsb' 0 8 = lo
  exact BitVec.extractLsb'_append_eq_right

@[simp] theorem hi8_append (hi lo : Octet) : hi8 (hi ++ lo : BitVec 16) = hi := by
  change (hi ++ lo).extractLsb' 8 8 = hi
  exact BitVec.extractLsb'_append_eq_left

@[simp] theorem lo8_half (hi lo : Octet) : lo8 (half hi lo) = lo := lo8_append hi lo
@[simp] theorem hi8_half (hi lo : Octet) : hi8 (half hi lo) = hi := hi8_append hi lo

/-- A 16-bit field is its two octets. -/
theorem half_eta (h : Half) : half (hi8 h) (lo8 h) = h := by
  apply BitVec.eq_of_getLsbD_eq
  intro i hi
  change (h.extractLsb' 8 8 ++ h.extractLsb' 0 8).getLsbD i = h.getLsbD i
  rw [BitVec.getLsbD_append]
  by_cases h8 : i < 8
  · simp [h8]
  · have h1 : 8 + (i - 8) = i := by omega
    have h2 : i - 8 < 8 := by omega
    simp [h8, h2, h1]

/-- An octet as a 16-bit field has 0 above it. -/
theorem setWidth_octet (d : Octet) : d.setWidth 16 = half 0#8 d := by
  revert d; decide

/-- An action changes only elements of the receive framer, and neither RX_POS nor RX_LAST. -/
theorem rxAction_frame (p : Word) (d : Octet) (s : State) :
    rxAction p d s = { s with
      rxSt := (rxAction p d s).rxSt, rxSkiprem := (rxAction p d s).rxSkiprem, rxCmdid := (rxAction p d s).rxCmdid
      rxLen := (rxAction p d s).rxLen, rxPcount := (rxAction p d s).rxPcount
      rxCrcRecv := (rxAction p d s).rxCrcRecv, rxCrc := (rxAction p d s).rxCrc
      rxMatch := (rxAction p d s).rxMatch, rxLenerr := (rxAction p d s).rxLenerr
      rxClass := (rxAction p d s).rxClass, rxPstart := (rxAction p d s).rxPstart } := by
  cases h : s.rxSt <;>
    simp only [rxAction, h, rxInSkip, rxInHunt, rxInCmd, rxInLenLo, rxInLenHi, rxInPayload, rxInCrcLo, rxInCrcHi,
      rxInDone] <;>
    (try split) <;> rfl

/-! ## The transmit framer -/

/-- Everything TX.START can do. -/
theorem execTxStart_inv (id : Octet) (len : Half) (s t : State) (h : execTxStart id len s = .next t) :
    (s.txBusy = true ∧ t = s.raise .txSeq) ∨ (s.txBusy = false ∧ t = txOpen id len s) := by
  unfold execTxStart at h
  cases hb : s.txBusy <;> simp [hb] at h <;> simp [h]

/-- Everything TX.DATA can do. -/
theorem execTxData_inv (d : Octet) (s t : State) (h : execTxData d s = .next t) :
    (s.txBusy = false ∧ t = s.raise .txSeq) ∨ (s.txBusy = true ∧ t = txPayload d s) := by
  unfold execTxData at h
  cases hb : s.txBusy <;> simp [hb] at h <;> simp [h]

/-- Everything TX.RAW can do. -/
theorem execTxRaw_inv (d : Octet) (s t : State) (h : execTxRaw d s = .next t) :
    (s.txBusy = true ∧ t = s.raise .txSeq) ∨ (s.txBusy = false ∧ t = s.emit [d]) := by
  unfold execTxRaw at h
  cases hb : s.txBusy <;> simp [hb] at h <;> simp [h]

/-- Opening a frame, as one update: the frame stays open exactly when payload is to come. -/
theorem txOpen_eq (id : Octet) (len : Half) (s : State) :
    txOpen id len s = { s with
      txout := s.txout ++ ([Config.sync, id, lo8 len, hi8 len] ++
        if len = 0#16 then checksumOctets (headerCrc id len) else [])
      txCrc := headerCrc id len, txRem := len, txBusy := decide (len ≠ 0#16) } := by
  by_cases h : len = 0#16 <;> simp [txOpen, State.emit, h]

/-- A payload octet, as one update. -/
theorem txPayload_eq (d : Octet) (s : State) :
    txPayload d s = { s with
      txout := s.txout ++ (d :: if s.txRem - 1#16 = 0#16 then checksumOctets (step16 s.txCrc d) else [])
      txCrc := step16 s.txCrc d, txRem := s.txRem - 1#16
      txBusy := if s.txRem - 1#16 = 0#16 then false else s.txBusy } := by
  by_cases h : s.txRem - 1#16 = 0#16 <;> simp [txPayload, State.emit, h]

/-! ## The host's queue -/

/-- What an operation does depends on no operation still to come, and changes none of them. -/
theorem exec_pending (i : Instr) (s t : State) (q : List AccessWord) (h : exec i s = .next t) :
    exec i { s with pending := q } = .next { t with pending := q } := by
  cases i <;> simp only [exec] at h ⊢
  case rxPush d =>
    injection h with h; subst h
    simp only [execRxPush, rxTake, Host.Outcome.next.injEq]
    cases hs : s.rxSt <;>
      simp only [rxAction, rxInSkip, rxInHunt, rxInCmd, rxInLenLo, rxInLenHi, rxInPayload, rxInCrcLo, rxInCrcHi,
        rxInDone] <;>
      (try split) <;> rfl
  case txStart id len =>
    rcases execTxStart_inv _ _ _ _ h with ⟨hb, rfl⟩ | ⟨hb, rfl⟩
    · simp [execTxStart, hb, State.raise, firstError]
    · simp [execTxStart, hb, txOpen_eq]
  case txData d =>
    rcases execTxData_inv _ _ _ h with ⟨hb, rfl⟩ | ⟨hb, rfl⟩
    · simp [execTxData, hb, State.raise, firstError]
    · simp [execTxData, hb, txPayload_eq]
  case txRaw d =>
    rcases execTxRaw_inv _ _ _ h with ⟨hb, rfl⟩ | ⟨hb, rfl⟩
    · simp [execTxRaw, hb, State.raise, firstError]
    · simp [execTxRaw, hb, State.emit]
  all_goals (injection h with h; subst h; rfl)

/-- Performing one more operation first, where decoding gives it back. -/
theorem performs_cons (i : Instr) (is : List Instr) (s t u : State) (hd : decode (encode i) = .ok i)
    (hi : exec i s = .next t) (ht : t.pending = s.pending) (h : Performs t is u) : Performs s (i :: is) u := by
  have h1 : step { s with pending := (i :: is).map encode ++ s.pending } =
      .next { t with pending := is.map encode ++ s.pending } := by
    rw [step_cons _ (encode i) (is.map encode ++ s.pending) rfl]
    simp only [perform, hd]
    exact exec_pending i s t _ hi
  unfold Performs at h ⊢
  rw [ht] at h
  simp only [List.length_cons, Host.Core.run]
  rw [show Sys2Proof.core.step { s with pending := (i :: is).map encode ++ s.pending } = _ from h1]
  exact h

theorem performs_nil (s : State) : Performs s [] s := rfl

end Sys2Proof.Machine
end

