-- ==== Sys2Proof/Laws/PerInstr.lean ====
section
/-! SUPPORT. The families of lemmas with one lemma per constructor of Instr. -/

namespace Sys2Proof.Laws

/-- Masking a word part by part. -/
theorem acc_and (we m0 : BitVec 1) (off m1 : Octet) (hi m2 : Half) (d m3 op m4 : Octet) :
    ((we ++ off ++ (hi ++ d ++ op) : BitVec 41) &&& (m0 ++ m1 ++ (m2 ++ m3 ++ m4) : BitVec 41)) =
      ((we &&& m0) ++ (off &&& m1) ++ ((hi &&& m2) ++ (d &&& m3) ++ (op &&& m4)) : BitVec 41) := by
  rw [BitVec.and_append, BitVec.and_append, BitVec.and_append, BitVec.and_append]

/-- Masking a register write with the mask of its WE and OFF. -/
theorem write_and (off : Octet) (v : Word) :
    (accWrite off v &&& 0x1FF00000000#41) = accWrite off 0#32 := by
  change ((1#1 ++ off ++ v) &&& (1#1 ++ 0xFF#8 ++ 0#32)) = _
  rw [BitVec.and_append, BitVec.and_append]
  have h : off &&& 0xFF#8 = off := by
    rw [show (0xFF#8) = BitVec.allOnes 8 from rfl, BitVec.and_allOnes]
  rw [h, BitVec.and_zero]
  rfl

/-- Masking a format-B command with the mask of its row. -/
theorem cmdB_and (d op : Octet) :
    (accCmd (wordB d op) &&& 0x1FFFFFF00FF#41) = accCmd (wordB 0#8 op) := by
  have h := acc_and 1#1 1#1 0x00#8 0xFF#8 0#16 0xFFFF#16 d 0x00#8 op 0xFF#8
  rw [show op &&& 0xFF#8 = op by rw [show (0xFF#8) = BitVec.allOnes 8 from rfl, BitVec.and_allOnes],
    BitVec.and_zero] at h
  exact h

/-- Masking a format-H command with the mask of its row. -/
theorem cmdH_and (len : Half) (id op : Octet) :
    (accCmd (wordH len id op) &&& 0x1FF000000FF#41) = accCmd (wordH 0#16 0#8 op) := by
  have h := acc_and 1#1 1#1 0x00#8 0xFF#8 len 0x0000#16 id 0x00#8 op 0xFF#8
  rw [show op &&& 0xFF#8 = op by rw [show (0xFF#8) = BitVec.allOnes 8 from rfl, BitVec.and_allOnes],
    BitVec.and_zero, BitVec.and_zero] at h
  exact h

/-- The encoding of an operation is a word of its row of spec/opcode_table.json. -/
def EncodesToRow.Statement (i : Instr) : Prop := matchesRow (encode i) i

theorem EncodesToRow.nop : EncodesToRow.Statement .nop := show _ = _ by decide
theorem EncodesToRow.crc16Init : EncodesToRow.Statement .crc16Init := show _ = _ by decide
theorem EncodesToRow.crc16Feed (d : Octet) : EncodesToRow.Statement (.crc16Feed d) := (cmdB_and d _).trans rfl
theorem EncodesToRow.crc16Feed4 : EncodesToRow.Statement .crc16Feed4 := show _ = _ by decide
theorem EncodesToRow.crc32Init : EncodesToRow.Statement .crc32Init := show _ = _ by decide
theorem EncodesToRow.crc32Feed (d : Octet) : EncodesToRow.Statement (.crc32Feed d) := (cmdB_and d _).trans rfl
theorem EncodesToRow.crc32Feed4 : EncodesToRow.Statement .crc32Feed4 := show _ = _ by decide
theorem EncodesToRow.rxReset : EncodesToRow.Statement .rxReset := show _ = _ by decide
theorem EncodesToRow.rxPush (d : Octet) : EncodesToRow.Statement (.rxPush d) := (cmdB_and d _).trans rfl
theorem EncodesToRow.txStart (id : Octet) (len : Half) : EncodesToRow.Statement (.txStart id len) := (cmdH_and len id _).trans rfl
theorem EncodesToRow.txData (d : Octet) : EncodesToRow.Statement (.txData d) := (cmdB_and d _).trans rfl
theorem EncodesToRow.txRaw (d : Octet) : EncodesToRow.Statement (.txRaw d) := (cmdB_and d _).trans rfl
theorem EncodesToRow.txAbort : EncodesToRow.Statement .txAbort := show _ = _ by decide
theorem EncodesToRow.clrerr : EncodesToRow.Statement .clrerr := show _ = _ by decide
theorem EncodesToRow.sreset : EncodesToRow.Statement .sreset := show _ = _ by decide
theorem EncodesToRow.wrData (v : Word) : EncodesToRow.Statement (.wrData v) := (write_and _ v).trans rfl
theorem EncodesToRow.wrConfig (v : Word) : EncodesToRow.Statement (.wrConfig v) := (write_and _ v).trans rfl
theorem EncodesToRow.rdCmd : EncodesToRow.Statement .rdCmd := show _ = _ by decide
theorem EncodesToRow.rdData : EncodesToRow.Statement .rdData := show _ = _ by decide
theorem EncodesToRow.rdConfig : EncodesToRow.Statement .rdConfig := show _ = _ by decide
theorem EncodesToRow.rdStatus : EncodesToRow.Statement .rdStatus := show _ = _ by decide
theorem EncodesToRow.rdCrc16 : EncodesToRow.Statement .rdCrc16 := show _ = _ by decide
theorem EncodesToRow.rdCrc32 : EncodesToRow.Statement .rdCrc32 := show _ = _ by decide
theorem EncodesToRow.rdCrc32Result : EncodesToRow.Statement .rdCrc32Result := show _ = _ by decide
theorem EncodesToRow.rdRxHdr : EncodesToRow.Statement .rdRxHdr := show _ = _ by decide
theorem EncodesToRow.rdRxChk : EncodesToRow.Statement .rdRxChk := show _ = _ by decide
theorem EncodesToRow.rdRxCnt : EncodesToRow.Statement .rdRxCnt := show _ = _ by decide
theorem EncodesToRow.rdRxResult : EncodesToRow.Statement .rdRxResult := show _ = _ by decide
theorem EncodesToRow.rdTxInfo : EncodesToRow.Statement .rdTxInfo := show _ = _ by decide
theorem EncodesToRow.rdRxPos : EncodesToRow.Statement .rdRxPos := show _ = _ by decide
theorem EncodesToRow.rdRxPstart : EncodesToRow.Statement .rdRxPstart := show _ = _ by decide

end Sys2Proof.Laws
end

