-- ==== Sys2Proof/Machine/AsmText.lean ====
section
/-! DEFINITION. The text of the assembler's statements (R77) and pseudo-instructions (R78). What those rules leave open of
the text (blank space, the case of hex digits) is log 15. -/

namespace Sys2Proof.Machine

/-! ## Words and numbers -/

/-- A blank: a space or a tab. -/
def isBlank (c : Char) : Bool := c == ' ' || c == '\t'

/-- Text without the blanks around it. -/
def strip (cs : List Char) : List Char := ((cs.dropWhile isBlank).reverse.dropWhile isBlank).reverse

/-- The first word of a text, and the rest without the blanks around it. -/
def firstWord (cs : List Char) : List Char × List Char :=
  (cs.takeWhile (fun c => !isBlank c), strip (cs.dropWhile (fun c => !isBlank c)))

/-- The pieces of a text between separators. -/
def pieces (sep : Char) : List Char → List (List Char)
  | [] => [[]]
  | c :: cs =>
    if c == sep then [] :: pieces sep cs
    else match pieces sep cs with
      | [] => [[c]]
      | p :: ps => (c :: p) :: ps

/-- The operands of a statement: none, or a list separated by commas (R77, R78). -/
def operandTexts (cs : List Char) : List (List Char) :=
  match cs with
  | [] => []
  | _ => (pieces ',' cs).map strip

/-- A decimal digit. -/
def decDigit (c : Char) : Option Nat := if '0' ≤ c ∧ c ≤ '9' then some (c.toNat - '0'.toNat) else none

/-- A hex digit, of either case (log 15). -/
def hexDigit (c : Char) : Option Nat :=
  if 'A' ≤ c ∧ c ≤ 'F' then some (c.toNat - 'A'.toNat + 10)
  else if 'a' ≤ c ∧ c ≤ 'f' then some (c.toNat - 'a'.toNat + 10)
  else decDigit c

/-- The value of a row of digits, read on from `acc`. -/
def digits (base : Nat) (digit : Char → Option Nat) : Nat → List Char → Option Nat
  | acc, [] => some acc
  | acc, c :: cs =>
    match digit c with
    | some d => digits base digit (acc * base + d) cs
    | none => none

/-- A number, in decimal or `0x` hex (R77). -/
def number : List Char → Option Nat
  | [] => none
  | '0' :: 'x' :: c :: cs => digits 16 hexDigit 0 (c :: cs)
  | c :: cs => digits 10 decDigit 0 (c :: cs)

/-- A list of numbers. -/
def numbers : List (List Char) → Option (List Nat)
  | [] => some []
  | t :: ts =>
    match number t, numbers ts with
    | some n, some ns => some (n :: ns)
    | _, _ => none

/-! ## Names -/

/-- The format-N mnemonics (R73). -/
def namedN : List (String × OpN) :=
  [("NOP", .nop), ("CRC16.INIT", .crc16Init), ("CRC16.FEED4", .crc16Feed4), ("CRC32.INIT", .crc32Init),
   ("CRC32.FEED4", .crc32Feed4), ("RX.RESET", .rxReset), ("TX.ABORT", .txAbort), ("CLRERR", .clrerr),
   ("SRESET", .sreset)]

/-- The format-B mnemonics (R73). -/
def namedB : List (String × OpB) :=
  [("CRC16.FEED", .crc16Feed), ("CRC32.FEED", .crc32Feed), ("RX.PUSH", .rxPush), ("TX.DATA", .txData),
   ("TX.RAW", .txRaw)]

/-- The pseudo-instructions that take octets alone (R78). -/
def namedOctets : List (String × (List Nat → Stmt)) :=
  [("CRC16.BYTES", .crc16Bytes), ("CRC32.BYTES", .crc32Bytes), ("CRC16.OF", .crc16Of), ("CRC32.OF", .crc32Of),
   ("RX.BYTES", .rxBytes), ("TX.BYTES", .txBytes)]

/-- The register names (R22). -/
def namedReg : List (String × RegName) :=
  [("CMD", .cmd), ("DATA", .data), ("CONFIG", .config), ("STATUS", .status), ("CRC16", .crc16), ("CRC32", .crc32),
   ("CRC32_RESULT", .crc32Result), ("RX_HDR", .rxHdr), ("RX_CHK", .rxChk), ("RX_CNT", .rxCnt),
   ("RX_RESULT", .rxResult), ("TX_INFO", .txInfo), ("RX_POS", .rxPos), ("RX_PSTART", .rxPstart)]

/-- The entry of a name. -/
def named {α : Type} (table : List (String × α)) (name : List Char) : Option α :=
  table.lookup (String.ofList name)

/-! ## Statements -/

/-- A register read: `RD NAME`; a listing may show its result (R77). -/
def parseRead (rest : List Char) : Option Stmt :=
  let (name, tail) := firstWord rest
  match named namedReg name, tail with
  | some r, [] => some (.rd r)
  | some r, '-' :: '>' :: v => (number (strip v)).map (fun _ => .rd r)
  | _, _ => none

/-- A register write: `WR DATA, v` or `WR CONFIG, v` (R77). -/
def parseWrite (rest : List Char) : Option Stmt :=
  match operandTexts rest with
  | [name, v] =>
    match named namedReg name, number v with
    | some .data, some n => some (.wrData n)
    | some .config, some n => some (.wrConfig n)
    | _, _ => none
  | _ => none

/-- A mnemonic with numbers for operands (R77, R78). -/
def parseOp (name : List Char) (ns : List Nat) : Option Stmt :=
  match named namedN name, named namedB name, named namedOctets name, String.ofList name, ns with
  | some op, _, _, _, [] => some (.opN op)
  | _, some op, _, _, [o] => some (.opB op o)
  | _, _, some mk, _, os => some (mk os)
  | _, _, _, "TX.START", [id, len] => some (.txStart id len)
  | _, _, _, "TX.FRAME", id :: os => some (.txFrame id os)
  | _, _, _, "CFG", [skip, maxlen] => some (.cfg skip maxlen)
  | _, _, _, _, _ => none

/-- A statement, without the blanks around it and without a comment. -/
def parse (cs : List Char) : Option Stmt :=
  let (name, rest) := firstWord cs
  match String.ofList name with
  | "RD" => parseRead rest
  | "WR" => parseWrite rest
  | _ => (numbers (operandTexts rest)).bind (parseOp name)

/-- A line without its comment and the blanks around it: `;` starts a comment (R77). -/
def statementOf (line : String) : List Char := strip (line.toList.takeWhile (fun c => c != ';'))

/-- The access words of a line; a line without a statement has none, and a line that is no statement, or has an operand
out of range, is an assembly error (R77). -/
def assembleLine (line : String) : Option (List AccessWord) :=
  match statementOf line with
  | [] => some []
  | cs => (parse cs).bind assemble

/-- The access words of a program's lines, in order. -/
def assembleText : List String → Option (List AccessWord)
  | [] => some []
  | l :: ls =>
    match assembleLine l, assembleText ls with
    | some ws, some rest => some (ws ++ rest)
    | _, _ => none

/-- How a listing shows an operation: OFF and WDATA, with WE implied by the statement (R77). -/
def listing (i : Instr) : Octet × Word := (accOff (encode i), accData (encode i))

end Sys2Proof.Machine
end

