-- ==== Sys2Proof/Tests/Slice0.lean ====
section
/-! SUPPORT. Tests: ill-formed terms that WellFormed refuses, decoding of words written out from the spec, single steps
with results taken from spec/95_test_vectors.md and the rules' examples, and a witness for every statement that has
hypotheses. -/

namespace Sys2Proof.Tests

open Sys2Proof.Machine Sys2Proof.Safety

set_option Elab.async false

/-! ## Well-formedness: one ill-formed term for each check of R77 and R78, beside a well-formed one at the boundary -/

theorem test_wf_octet_operand : Stmt.wf (.opB .rxPush 256) = false ∧ Stmt.wf (.opB .rxPush 255) = true := by decide
theorem test_wf_txStart_id : Stmt.wf (.txStart 256 0) = false ∧ Stmt.wf (.txStart 255 0) = true := by decide
theorem test_wf_txStart_len : Stmt.wf (.txStart 0 65536) = false ∧ Stmt.wf (.txStart 0 65535) = true := by decide
theorem test_wf_wrData : Stmt.wf (.wrData 0x100000000) = false ∧ Stmt.wf (.wrData 0xFFFFFFFF) = true := by decide
theorem test_wf_wrConfig : Stmt.wf (.wrConfig 0x100000000) = false ∧ Stmt.wf (.wrConfig 0xFFFFFFFF) = true := by decide
theorem test_wf_octet_lists :
    Stmt.wf (.crc16Bytes [1, 256]) = false ∧ Stmt.wf (.crc32Bytes [1, 256]) = false ∧
    Stmt.wf (.crc16Of [256]) = false ∧ Stmt.wf (.crc32Of [256]) = false ∧ Stmt.wf (.rxBytes [0, 256]) = false ∧
    Stmt.wf (.txBytes [0, 256]) = false ∧ Stmt.wf (.rxBytes [0, 255]) = true := by decide
theorem test_wf_txFrame_octets :
    Stmt.wf (.txFrame 256 []) = false ∧ Stmt.wf (.txFrame 0 [256]) = false ∧ Stmt.wf (.txFrame 255 [255]) = true := by
  decide
theorem wf_txFrame_too_long (os : List Nat) (h : os.length = 65536) : Stmt.wf (.txFrame 0 os) = false := by
  simp [Stmt.wf, halfOk, h]
theorem test_wf_txFrame_length : Stmt.wf (.txFrame 0 (List.replicate 65536 0)) = false :=
  wf_txFrame_too_long _ List.length_replicate
theorem test_wf_cfg : Stmt.wf (.cfg 256 0) = false ∧ Stmt.wf (.cfg 0 65536) = false ∧ Stmt.wf (.cfg 255 65535) = true := by
  decide

/-! ## Decoding: every constructor, on a word written out from R70..R73 as WE, OFF, and the fields of WDATA -/

/-- Format N: WE = 1, OFF = 0x00, 24 reserved zeros, OP. -/
theorem test_decode_format_N :
    decode (0b1#1 ++ 0b00000000#8 ++ 0#24 ++ 0b00000000#8) = .ok .nop ∧
    decode (0b1#1 ++ 0b00000000#8 ++ 0#24 ++ 0b00000001#8) = .ok .crc16Init ∧
    decode (0b1#1 ++ 0b00000000#8 ++ 0#24 ++ 0b00000011#8) = .ok .crc16Feed4 ∧
    decode (0b1#1 ++ 0b00000000#8 ++ 0#24 ++ 0b00010001#8) = .ok .crc32Init ∧
    decode (0b1#1 ++ 0b00000000#8 ++ 0#24 ++ 0b00010011#8) = .ok .crc32Feed4 ∧
    decode (0b1#1 ++ 0b00000000#8 ++ 0#24 ++ 0b00100000#8) = .ok .rxReset ∧
    decode (0b1#1 ++ 0b00000000#8 ++ 0#24 ++ 0b00110011#8) = .ok .txAbort ∧
    decode (0b1#1 ++ 0b00000000#8 ++ 0#24 ++ 0b11110000#8) = .ok .clrerr ∧
    decode (0b1#1 ++ 0b00000000#8 ++ 0#24 ++ 0b11111111#8) = .ok .sreset := by
  decide

/-- Format B: WE = 1, OFF = 0x00, 16 reserved zeros, D, OP. -/
theorem test_decode_format_B :
    decode (0b1#1 ++ 0b00000000#8 ++ 0#16 ++ 0b00110001#8 ++ 0b00000010#8) = .ok (.crc16Feed 0x31#8) ∧
    decode (0b1#1 ++ 0b00000000#8 ++ 0#16 ++ 0b01100001#8 ++ 0b00010010#8) = .ok (.crc32Feed 0x61#8) ∧
    decode (0b1#1 ++ 0b00000000#8 ++ 0#16 ++ 0b00000010#8 ++ 0b00100001#8) = .ok (.rxPush 0x02#8) ∧
    decode (0b1#1 ++ 0b00000000#8 ++ 0#16 ++ 0b01010101#8 ++ 0b00110001#8) = .ok (.txData 0x55#8) ∧
    decode (0b1#1 ++ 0b00000000#8 ++ 0#16 ++ 0b11111110#8 ++ 0b00110010#8) = .ok (.txRaw 0xFE#8) := by
  decide

/-- Format H: WE = 1, OFF = 0x00, LEN, ID, OP. -/
theorem test_decode_format_H :
    decode (0b1#1 ++ 0b00000000#8 ++ 0b0000000100000100#16 ++ 0b00100001#8 ++ 0b00110000#8) =
      .ok (.txStart 0x21#8 0x0104#16) := by
  decide

/-- The register writes: WE = 1, OFF, WDATA. -/
theorem test_decode_writes :
    decode (0b1#1 ++ 0b00000100#8 ++ 0x34333231#32) = .ok (.wrData 0x34333231#32) ∧
    decode (0b1#1 ++ 0b00001000#8 ++ 0xFFFF0010#32) = .ok (.wrConfig 0xFFFF0010#32) := by
  decide

/-- The register reads: WE = 0, OFF, any WDATA. -/
theorem test_decode_reads :
    decode (0b0#1 ++ 0b00000000#8 ++ 0x00000000#32) = .ok .rdCmd ∧
    decode (0b0#1 ++ 0b00000100#8 ++ 0xFFFFFFFF#32) = .ok .rdData ∧
    decode (0b0#1 ++ 0b00001000#8 ++ 0x00000000#32) = .ok .rdConfig ∧
    decode (0b0#1 ++ 0b00001100#8 ++ 0xFFFFFFFF#32) = .ok .rdStatus ∧
    decode (0b0#1 ++ 0b00010000#8 ++ 0x00000000#32) = .ok .rdCrc16 ∧
    decode (0b0#1 ++ 0b00010100#8 ++ 0xFFFFFFFF#32) = .ok .rdCrc32 ∧
    decode (0b0#1 ++ 0b00011000#8 ++ 0x00000000#32) = .ok .rdCrc32Result ∧
    decode (0b0#1 ++ 0b00011100#8 ++ 0xFFFFFFFF#32) = .ok .rdRxHdr ∧
    decode (0b0#1 ++ 0b00100000#8 ++ 0x00000000#32) = .ok .rdRxChk ∧
    decode (0b0#1 ++ 0b00100100#8 ++ 0xFFFFFFFF#32) = .ok .rdRxCnt ∧
    decode (0b0#1 ++ 0b00101000#8 ++ 0x00000000#32) = .ok .rdRxResult ∧
    decode (0b0#1 ++ 0b00101100#8 ++ 0xFFFFFFFF#32) = .ok .rdTxInfo ∧
    decode (0b0#1 ++ 0b00110000#8 ++ 0x00000000#32) = .ok .rdRxPos ∧
    decode (0b0#1 ++ 0b00110100#8 ++ 0xFFFFFFFF#32) = .ok .rdRxPstart := by
  decide

/-- The rejections, by name (R75, R231). -/
theorem test_decode_rejects :
    decode (0b1#1 ++ 0x00#8 ++ 0x00000004#32) = .error .undefinedOp ∧
    decode (0b1#1 ++ 0x00#8 ++ 0x00000100#32) = .error .reservedBits ∧
    decode (0b1#1 ++ 0x00#8 ++ 0x00010102#32) = .error .reservedBits ∧
    decode (0b1#1 ++ 0x0C#8 ++ 0xFFFFFFFF#32) = .error .unwritable ∧
    decode (0b1#1 ++ 0x05#8 ++ 0x12345678#32) = .error .misaligned ∧
    decode (0b0#1 ++ 0x38#8 ++ 0x00000000#32) = .error .unmappedRead ∧
    decode (0b0#1 ++ 0x06#8 ++ 0x00000000#32) = .error .misaligned ∧
    decode (0b1#1 ++ 0x01#8 ++ 0x00000004#32) = .error .misaligned := by
  decide

/-- The host's two questions, on rows of the opcode table (48 bits hold the 41 of an access word). -/
theorem test_decodeTableWord :
    decodeTableWord 48 0x10000003102 = some (.crc16Feed 0x31#8) ∧ decodeTableWord 48 0x00C00000000 = some .rdStatus ∧
    decodeTableWord 48 0x10000000004 = none ∧ decodeTableWord 48 0x20000000000 = none := by
  decide
theorem test_withFetchWord_runs :
    step (State.reset.withFetchWord 48 0x10434333231) = .next { State.reset with data := 0x34333231#32 } := rfl

/-! ## The assembler's text (R77) -/

theorem test_text_statements :
    assembleText ["CFG 0, 3        ; the configuration of P4", "RX.RESET", "", "RX.PUSH 0xFF", "TX.START 0x21, 4",
      "RD STATUS -> 0x00000208"] =
    some [0x10800030000#41, 0x10000000020#41, 0x1000000FF21#41, 0x10000042130#41, 0x00C00000000#41] := by
  decide
theorem test_text_errors :
    assembleLine "RX.PUSH 256" = none ∧ assembleLine "RX.PUSH" = none ∧ assembleLine "TX.START 0, 65536" = none ∧
    assembleLine "WR STATUS, 0" = none ∧ assembleLine "NOP 0" = none := by
  decide

/-! ## The CRC functions: R127's listing and the vectors V-CRC16 and V-CRC32 -/

/-- T32[0x00..0x3F] as R127 lists them. -/
theorem test_t32_listing_0 :
    (List.range 64).map (fun j => t32 (BitVec.ofNat 8 (0 + j))) =
      [0x00000000, 0x77073096, 0xEE0E612C, 0x990951BA, 0x076DC419, 0x706AF48F, 0xE963A535, 0x9E6495A3] ++
      [0x0EDB8832, 0x79DCB8A4, 0xE0D5E91E, 0x97D2D988, 0x09B64C2B, 0x7EB17CBD, 0xE7B82D07, 0x90BF1D91] ++
      [0x1DB71064, 0x6AB020F2, 0xF3B97148, 0x84BE41DE, 0x1ADAD47D, 0x6DDDE4EB, 0xF4D4B551, 0x83D385C7] ++
      [0x136C9856, 0x646BA8C0, 0xFD62F97A, 0x8A65C9EC, 0x14015C4F, 0x63066CD9, 0xFA0F3D63, 0x8D080DF5] ++
      [0x3B6E20C8, 0x4C69105E, 0xD56041E4, 0xA2677172, 0x3C03E4D1, 0x4B04D447, 0xD20D85FD, 0xA50AB56B] ++
      [0x35B5A8FA, 0x42B2986C, 0xDBBBC9D6, 0xACBCF940, 0x32D86CE3, 0x45DF5C75, 0xDCD60DCF, 0xABD13D59] ++
      [0x26D930AC, 0x51DE003A, 0xC8D75180, 0xBFD06116, 0x21B4F4B5, 0x56B3C423, 0xCFBA9599, 0xB8BDA50F] ++
      [0x2802B89E, 0x5F058808, 0xC60CD9B2, 0xB10BE924, 0x2F6F7C87, 0x58684C11, 0xC1611DAB, 0xB6662D3D] := by
  decide

/-- T32[0x40..0x7F] as R127 lists them. -/
theorem test_t32_listing_1 :
    (List.range 64).map (fun j => t32 (BitVec.ofNat 8 (64 + j))) =
      [0x76DC4190, 0x01DB7106, 0x98D220BC, 0xEFD5102A, 0x71B18589, 0x06B6B51F, 0x9FBFE4A5, 0xE8B8D433] ++
      [0x7807C9A2, 0x0F00F934, 0x9609A88E, 0xE10E9818, 0x7F6A0DBB, 0x086D3D2D, 0x91646C97, 0xE6635C01] ++
      [0x6B6B51F4, 0x1C6C6162, 0x856530D8, 0xF262004E, 0x6C0695ED, 0x1B01A57B, 0x8208F4C1, 0xF50FC457] ++
      [0x65B0D9C6, 0x12B7E950, 0x8BBEB8EA, 0xFCB9887C, 0x62DD1DDF, 0x15DA2D49, 0x8CD37CF3, 0xFBD44C65] ++
      [0x4DB26158, 0x3AB551CE, 0xA3BC0074, 0xD4BB30E2, 0x4ADFA541, 0x3DD895D7, 0xA4D1C46D, 0xD3D6F4FB] ++
      [0x4369E96A, 0x346ED9FC, 0xAD678846, 0xDA60B8D0, 0x44042D73, 0x33031DE5, 0xAA0A4C5F, 0xDD0D7CC9] ++
      [0x5005713C, 0x270241AA, 0xBE0B1010, 0xC90C2086, 0x5768B525, 0x206F85B3, 0xB966D409, 0xCE61E49F] ++
      [0x5EDEF90E, 0x29D9C998, 0xB0D09822, 0xC7D7A8B4, 0x59B33D17, 0x2EB40D81, 0xB7BD5C3B, 0xC0BA6CAD] := by
  decide

/-- T32[0x80..0xBF] as R127 lists them. -/
theorem test_t32_listing_2 :
    (List.range 64).map (fun j => t32 (BitVec.ofNat 8 (128 + j))) =
      [0xEDB88320, 0x9ABFB3B6, 0x03B6E20C, 0x74B1D29A, 0xEAD54739, 0x9DD277AF, 0x04DB2615, 0x73DC1683] ++
      [0xE3630B12, 0x94643B84, 0x0D6D6A3E, 0x7A6A5AA8, 0xE40ECF0B, 0x9309FF9D, 0x0A00AE27, 0x7D079EB1] ++
      [0xF00F9344, 0x8708A3D2, 0x1E01F268, 0x6906C2FE, 0xF762575D, 0x806567CB, 0x196C3671, 0x6E6B06E7] ++
      [0xFED41B76, 0x89D32BE0, 0x10DA7A5A, 0x67DD4ACC, 0xF9B9DF6F, 0x8EBEEFF9, 0x17B7BE43, 0x60B08ED5] ++
      [0xD6D6A3E8, 0xA1D1937E, 0x38D8C2C4, 0x4FDFF252, 0xD1BB67F1, 0xA6BC5767, 0x3FB506DD, 0x48B2364B] ++
      [0xD80D2BDA, 0xAF0A1B4C, 0x36034AF6, 0x41047A60, 0xDF60EFC3, 0xA867DF55, 0x316E8EEF, 0x4669BE79] ++
      [0xCB61B38C, 0xBC66831A, 0x256FD2A0, 0x5268E236, 0xCC0C7795, 0xBB0B4703, 0x220216B9, 0x5505262F] ++
      [0xC5BA3BBE, 0xB2BD0B28, 0x2BB45A92, 0x5CB36A04, 0xC2D7FFA7, 0xB5D0CF31, 0x2CD99E8B, 0x5BDEAE1D] := by
  decide

/-- T32[0xC0..0xFF] as R127 lists them. -/
theorem test_t32_listing_3 :
    (List.range 64).map (fun j => t32 (BitVec.ofNat 8 (192 + j))) =
      [0x9B64C2B0, 0xEC63F226, 0x756AA39C, 0x026D930A, 0x9C0906A9, 0xEB0E363F, 0x72076785, 0x05005713] ++
      [0x95BF4A82, 0xE2B87A14, 0x7BB12BAE, 0x0CB61B38, 0x92D28E9B, 0xE5D5BE0D, 0x7CDCEFB7, 0x0BDBDF21] ++
      [0x86D3D2D4, 0xF1D4E242, 0x68DDB3F8, 0x1FDA836E, 0x81BE16CD, 0xF6B9265B, 0x6FB077E1, 0x18B74777] ++
      [0x88085AE6, 0xFF0F6A70, 0x66063BCA, 0x11010B5C, 0x8F659EFF, 0xF862AE69, 0x616BFFD3, 0x166CCF45] ++
      [0xA00AE278, 0xD70DD2EE, 0x4E048354, 0x3903B3C2, 0xA7672661, 0xD06016F7, 0x4969474D, 0x3E6E77DB] ++
      [0xAED16A4A, 0xD9D65ADC, 0x40DF0B66, 0x37D83BF0, 0xA9BCAE53, 0xDEBB9EC5, 0x47B2CF7F, 0x30B5FFE9] ++
      [0xBDBDF21C, 0xCABAC28A, 0x53B39330, 0x24B4A3A6, 0xBAD03605, 0xCDD70693, 0x54DE5729, 0x23D967BF] ++
      [0xB3667A2E, 0xC4614AB8, 0x5D681B02, 0x2A6F2B94, 0xB40BBE37, 0xC30C8EA1, 0x5A05DF1B, 0x2D02EF8D] := by
  decide

theorem test_crc16_vectors :
    step16 0x1234#16 0x56#8 = 0x3C40#16 ∧ step16 0x8000#16 0x00#8 = 0x9188#16 ∧ step16 0xFFFF#16 0x01#8 = 0xF1D1#16 ∧
    crc16Of [] = 0xFFFF#16 ∧ crc16Of [0x61, 0x62, 0x63] = 0x514A#16 ∧ crc16Of [0, 0, 0, 0] = 0x84C0#16 ∧
    crc16Of [0x80, 0x03, 0x00, 0x28, 0x00, 0x00] = 0x1B85#16 := by
  decide +kernel
theorem test_crc32_vectors :
    step32 0x12345678#32 0x9A#8 = 0x4E16B702#32 ∧ crc32Of [] = 0x00000000#32 ∧
    crc32Of [0x61, 0x62, 0x63] = 0x352441C2#32 ∧
    crc32Of [0x31, 0x32, 0x33, 0x34, 0x35, 0x36, 0x37, 0x38, 0x39] = 0xCBF43926#32 := by
  decide +kernel

/-! ## One step of each operation, on the rules' examples and the vectors V-RX, V-TX, V-BUS -/

/-- A view of the state an operation leads to; none where it stops. -/
def after {α : Type} (view : State → α) : Host.Outcome State Fault Refusal → Option α
  | .next t => some (view t)
  | .fault _ => none
  | .refused _ => none

/-- After `TX.START 0x21, 4` from reset. -/
def sending : State :=
  { State.reset with txBusy := true, txRem := 4#16, txCrc := 0xB1AE#16, txout := [0x02, 0x21, 0x04, 0x00] }

/-- The receive framer in a state, with the CRC and lengths a vector gives. -/
def receiving (st : RxSt) (crc len count : Half) : State :=
  { State.reset with rxSt := st, rxCmdid := 0x80#8, rxLen := len, rxPcount := count, rxCrc := crc }

/-- After `WR DATA, 0x34333231` from reset. -/
def loaded : State := { State.reset with data := 0x34333231#32 }

/-- After `TX.DATA 0x55` while idle: ERR = 1, ERRCODE = 2. -/
def failed : State := { State.reset with err := true, errcode := .txSeq }

theorem test_nop : exec .nop sending = .next sending := rfl
theorem test_crc16Init : after State.crc16 (exec .crc16Init { State.reset with crc16 := 0x1234#16 }) = some 0xFFFF#16 := by
  decide
theorem test_crc16Feed : after State.crc16 (exec (.crc16Feed 0x41#8) State.reset) = some 0xB915#16 := by decide
theorem test_crc16Feed4 :
    after (fun t => (t.crc16, t.data)) (exec .crc16Feed4 { State.reset with data := 0x34333231#32 }) =
      some (0x5349#16, 0x34333231#32) := by
  decide +kernel
theorem test_crc32Init :
    after (fun t => (t.crc32, image t .crc32Result)) (exec .crc32Init { State.reset with crc32 := 0x12345678#32 }) =
      some (0xFFFFFFFF#32, 0x00000000#32) := by
  decide
theorem test_crc32Feed : after State.crc32 (exec (.crc32Feed 0x61#8) State.reset) = some 0x174841BC#32 := by decide
theorem test_crc32Feed4 :
    after (fun t => (t.crc32, image t .crc32Result)) (exec .crc32Feed4 { State.reset with data := 0x34333231#32 }) =
      some (0x641C1F5C#32, 0x9BE3E0A3#32) := by
  decide +kernel
theorem test_rxReset :
    after (fun t => (t.rxSt, t.rxSkiprem, t.rxPos, t.rxLenerr))
      (exec .rxReset { State.reset with cfgSkip := 16#8, rxPos := 9#32, rxLenerr := true }) =
      some (.skip, 16#8, 0#32, false) := by
  decide
/-- RX5 at position 3 (LENREJ), RX3 at position 3 (an accepted length) and at position 6 (the last payload octet). -/
theorem test_rxPush_length_and_payload :
    after (fun t => (t.rxSt, t.rxClass, t.rxCrc, t.rxLenerr))
      (exec (.rxPush 0x00#8) { receiving .lenHi 0x685C#16 4#16 0#16 with cfgMaxlen := 3#16 }) =
      some (.hunt, .lenRej, 0xB1AE#16, true) ∧
    after (fun t => (t.rxSt, t.rxClass, t.rxCrc, t.rxPstart))
      (exec (.rxPush 0x00#8) { receiving .lenHi 0x36F4#16 3#16 0#16 with rxPos := 3#32 }) =
      some (.payload, .lenHi, 0xA295#16, 4#32) ∧
    after (fun t => (t.rxSt, t.rxClass, t.rxCrc, t.rxPcount)) (exec (.rxPush 0x00#8) (receiving .payload 0x274F#16 3#16 2#16)) =
      some (.crcLo, .payload, 0x1B85#16, 3#16) := by
  decide
/-- RX3 at position 8 (the checksums agree) and RX4 at position 10 (they differ, and no error). -/
theorem test_rxPush_checksum :
    after (fun t => image t .status)
      (exec (.rxPush 0x1B#8) { receiving .crcHi 0x1B85#16 3#16 3#16 with rxCrcRecv := 0x0085#16 }) = some 0x00000108#32 ∧
    after (fun t => image t .status)
      (exec (.rxPush 0x2D#8) { receiving .crcHi 0x2CB5#16 3#16 3#16 with rxCrcRecv := 0x00B5#16 }) = some 0x00000008#32 := by
  decide
theorem test_txStart :
    after (fun t => (t.txout, t.txCrc, t.txBusy)) (exec (.txStart 0x30#8 0#16) State.reset) =
      some ([0x02, 0x30, 0x00, 0x00, 0x39, 0x09], 0x0939#16, false) ∧
    after id (exec (.txStart 0x21#8 4#16) State.reset) = some sending ∧ image sending .txInfo = 0xB1AE0004#32 := by
  decide +kernel
theorem test_txStart_out_of_sequence :
    after (fun t => (image t .status, t.txRem, t.txout)) (exec (.txStart 0x30#8 0#16) sending) =
      some (0x82000011#32, 4#16, [0x02, 0x21, 0x04, 0x00]) := by
  decide
theorem test_txData_last_octet :
    after (fun t => (t.txout, t.txCrc, t.txRem, t.txBusy))
      (exec (.txData 0x12#8)
        { sending with txRem := 1#16, txout := [], txCrc := crc16Of [0x21, 0x04, 0x00, 0x10, 0x80, 0x34] }) =
      some ([0x12, 0x27, 0xFA], 0xFA27#16, 0#16, false) := by
  decide +kernel
theorem test_txData_out_of_sequence :
    after (fun t => (image t .status, t.txout)) (exec (.txData 0x55#8) State.reset) = some (0x82000001#32, []) := by
  decide
theorem test_txRaw :
    after State.txout (exec (.txRaw 0xAA#8) State.reset) = some [0xAA] ∧
    after (fun t => image t .status) (exec (.txRaw 0x00#8) sending) = some 0x82000011#32 := by
  decide
theorem test_txAbort :
    after (fun t => (t.txBusy, t.txRem, t.txCrc, t.txout))
      (exec .txAbort { sending with txRem := 3#16, txCrc := 0x0BCB#16, txout := sending.txout ++ [0x10] }) =
      some (false, 0#16, 0x0BCB#16, [0x02, 0x21, 0x04, 0x00, 0x10]) := by
  decide
theorem test_clrerr : after (fun t => image t .status) (exec .clrerr failed) = some 0x00000001#32 := by decide
theorem test_sreset :
    after (fun t => (image t .status, image t .config, t.txout))
      (exec .sreset { sending with data := 1#32, cfgMaxlen := 0#16, crc16 := 0#16, err := true, errcode := .badAccess }) =
      some (0x00000001#32, 0xFFFF0000#32, [0x02, 0x21, 0x04, 0x00]) := by
  decide
theorem test_wrData : exec (.wrData 0x34333231#32) sending = .next { sending with data := 0x34333231#32 } := rfl
theorem test_wrConfig :
    after (fun t => (image t .config, t.rxSkiprem)) (exec (.wrConfig 0x12345610#32) State.reset) =
      some (0x12340010#32, 0#8) := by
  decide
/-- The fourteen reads from reset (V-BUS). -/
theorem test_reads_after_reset :
    ([Instr.rdCmd, .rdData, .rdConfig, .rdStatus, .rdCrc16, .rdCrc32, .rdCrc32Result, .rdRxHdr, .rdRxChk, .rdRxCnt,
      .rdRxResult, .rdTxInfo, .rdRxPos, .rdRxPstart].map fun i => after State.rdata (exec i State.reset)) =
    [0x00000000, 0x00000000, 0xFFFF0000, 0x00000001, 0x0000FFFF, 0xFFFFFFFF, 0x00000000, 0x00000000, 0xFFFF0000,
      0x00000000, 0x00000000, 0xFFFF0000, 0x00000000, 0x00000000].map fun v => some [v] := by
  decide
/-- The reads after program P3's pushes, whose end state the spec gives element by element. -/
theorem test_reads_after_a_frame :
    ([Instr.rdConfig, .rdStatus, .rdRxHdr, .rdRxChk, .rdRxCnt, .rdRxResult, .rdRxPos, .rdRxPstart].map fun i =>
      after State.rdata (exec i
        { receiving .done 0x1B85#16 3#16 3#16 with
          cfgSkip := 16#8, rxCrcRecv := 0x1B85#16, rxMatch := true, rxClass := .trail
          rxPos := 0x1C#32, rxPstart := 0x14#32 })) =
    [0xFFFF0010, 0x00000108, 0x00030080, 0x1B851B85, 0x00000003, 0x0000000A, 0x0000001C, 0x00000014].map
      fun v => some [v] := by
  decide
/-- A second error keeps the first code, a raising read returns 0, and CLRERR with a reserved bit leaves the record. -/
theorem test_errors_keep_the_first :
    after (fun t => image t .status) (step (failed.present 0x10000000004#41)) = some 0x82000001#32 ∧
    after (fun t => image t .status) (step (failed.present 0x100000001F0#41)) = some 0x82000001#32 ∧
    after (fun t => (image t .status, t.rdata)) (step (State.reset.present 0x03800000000#41)) =
      some (0x83000001#32, [0x00000000#32]) ∧
    after (fun t => image t .status) (step (State.reset.present 0x10001000031#41)) = some 0x81000001#32 := by
  decide

/-! ## Witnesses: for each statement with hypotheses, concrete values that meet them together

A theorem `witness_<Name>` is for Obligations.<Name>; a clause at a boundary has its own. -/

theorem witness_DecodeOfEncodeIsTheOperation : (Instr.txStart 0xFF#8 0xFFFF#16).wf = true := by decide
theorem witness_EncodeOfDecodeIsTheWord :
    decode 0x10000003102#41 = .ok (.crc16Feed 0x31#8) ∧ isWrite 0x10000003102#41 = true ∧
    decode 0x00CFFFFFFFF#41 = .ok .rdStatus ∧ isWrite 0x00CFFFFFFFF#41 = false := by
  decide
theorem witness_DecoderFollowsOpcodeTable :
    decode 0x10000FFFF30#41 = .ok (.txStart 0xFF#8 0x00FF#16) := by decide
theorem witness_DecoderFollowsOpcodeTable_row :
    matchesRow 0x10000003102#41 (.crc16Feed 0#8) ∧ matchesRow 0x10000003102#41 (.crc16Feed 1#8) := by
  unfold matchesRow; decide
theorem witness_AssemblerTruncatesNoOperand : 256 ≤ 256 ∧ (256 ≤ 0 ∨ 65536 ≤ 65536) ∧ 2 ^ 32 ≤ 0x100000000 := by decide
theorem witness_StepRunsTheDecodedOperation :
    (sending.present 0x10000001031#41).pending = 0x10000001031#41 :: [] ∧
    decode 0x10000001031#41 = .ok (.txData 0x10#8) ∧ (Instr.txData 0x10#8).wf = true := by
  decide
theorem witness_StepWithoutOperationChangesNothing : sending.pending = [] := by decide
theorem witness_OperationsLeaveTheHostsQueue :
    { State.reset with pending := [0x10000000000#41, 0x100000000FF#41] }.pending = 0x10000000000#41 :: [0x100000000FF#41] ∧
    step { State.reset with pending := [0x10000000000#41, 0x100000000FF#41] } =
      .next { State.reset with pending := [0x100000000FF#41] } := by
  and_intros <;> rfl
theorem witness_ErrorRecordKeepsTheFirst : State.reset.err = false ∧ failed.err = true := by decide
theorem witness_FirstFailingCheckDecidesTheError : sending.err = false ∧ sending.errcode = .none := by decide
/-- One access for each check of R235, and one that passes them all. -/
theorem witness_FailingOperationOnlyRaises :
    firstFailingCheck sending 0x10100000004#41 = .badAccess ∧ firstFailingCheck sending 0x10C00000000#41 = .badAccess ∧
    firstFailingCheck sending 0x03800000000#41 = .badAccess ∧ firstFailingCheck sending 0x00100000000#41 = .badAccess ∧
    firstFailingCheck sending 0x10000010031#41 = .illegalCmd ∧ firstFailingCheck sending 0x10000000032#41 = .txSeq ∧
    firstFailingCheck State.reset 0x10000000031#41 = .txSeq ∧ firstFailingCheck sending 0x10000000031#41 = .none := by
  decide
theorem witness_TransmitOutOfSequenceRaises : sending.txBusy = true ∧ State.reset.txBusy = false := by decide
theorem witness_ResetStateAndRegisterImages :
    exec .sreset sending = .next { State.reset with txout := [0x02, 0x21, 0x04, 0x00] } := rfl
/-- For every statement that says ReservedBitsRaise: a word with the lowest reserved bit of its format set. -/
theorem witness_ReservedBitsRaise :
    (∀ op ∈ [0x00#8, 0x01#8, 0x03#8, 0x11#8, 0x13#8, 0x20#8, 0x33#8, 0xF0#8, 0xFF#8],
      cmdOp (0x000001#24 ++ op) = op ∧ (0x000001#24 ++ op).toNat / 2 ^ 8 ≠ 0) ∧
    (∀ op ∈ [0x02#8, 0x12#8, 0x21#8, 0x31#8, 0x32#8],
      cmdOp (0x000100#24 ++ op) = op ∧ (0x000100#24 ++ op).toNat / 2 ^ 16 ≠ 0) := by
  decide
theorem witness_ClrerrClearsOnlyTheRecord : exec .clrerr failed = .next State.reset := rfl
theorem witness_SresetEqualsPowerOnReset : exec .sreset failed = .next State.reset := rfl
theorem witness_WrDataStoresTheWord :
    exec (.wrData 7#32) State.reset = .next { State.reset with data := 7#32 } ∧
    0x05 ≤ (0x05#8).toNat ∧ (0x05#8).toNat ≤ 0x07 ∧ 0x05 ≤ (0x07#8).toNat ∧ (0x07#8).toNat ≤ 0x07 := by
  and_intros <;> first | rfl | decide
theorem witness_WrConfigStoresTheFields :
    exec (.wrConfig 0x00030002#32) State.reset = .next { State.reset with cfgSkip := 2#8, cfgMaxlen := 3#16 } := rfl
theorem witness_ReadsHaveNoSideEffect :
    isWrite 0x00000000000#41 = false ∧ offsetOf 0x00000000000#41 % 4 = 0 ∧ offsetOf 0x00000000000#41 ≤ 0x34 ∧
    isWrite 0x03400000000#41 = false ∧ offsetOf 0x03400000000#41 % 4 = 0 ∧ offsetOf 0x03400000000#41 ≤ 0x34 := by
  decide
theorem witness_ReadsHaveNoSideEffect_raising :
    isWrite 0x00100000000#41 = false ∧ offsetOf 0x00100000000#41 % 4 ≠ 0 ∧
    isWrite 0x03800000000#41 = false ∧ 0x34 < offsetOf 0x03800000000#41 := by
  decide
theorem witness_Crc16CommandsUpdateTheAccumulator :
    loaded.data = 0x34#8 ++ 0x33#8 ++ 0x32#8 ++ 0x31#8 ∧
    loaded.crc16 = 0xFFFF#16 := by
  decide
theorem witness_Crc32CommandsUpdateTheAccumulator :
    loaded.data = 0x34#8 ++ 0x33#8 ++ 0x32#8 ++ 0x31#8 ∧
    loaded.crc32 = 0xFFFFFFFF#32 ∧ State.reset.data = 0#32 ∧
    exec .crc32Init sending = .next sending := by
  and_intros <;> rfl
theorem witness_FeedBytesFoldsEveryOctet :
    ([1, 2, 3, 4] : List Octet).length % 4 = 0 ∧ ([5, 6, 7] : List Octet).length < 4 ∧
    ([1, 2, 3, 4] : List Octet) = [] ++ [1, 2, 3, 4] := by
  decide
theorem witness_FeedBytesFoldsEveryOctet_short : ([] : List Octet).length % 4 = 0 ∧ ([] : List Octet).length < 4 := by
  decide
theorem witness_RxPushInSkipDiscards :
    { receiving .skip 0xFFFF#16 0#16 0#16 with rxSkiprem := 1#8 }.rxSt = .skip ∧
    1 ≤ { receiving .skip 0xFFFF#16 0#16 0#16 with rxSkiprem := 1#8 }.rxSkiprem.toNat ∧
    1 ≤ { receiving .skip 0xFFFF#16 0#16 0#16 with rxSkiprem := 255#8 }.rxSkiprem.toNat := by
  decide
theorem witness_RxPushInHuntSyncs : State.reset.rxSt = .hunt ∧ (0x03#8 : Octet) ≠ 0x02#8 := by decide
theorem witness_RxPushInCmdTakesTheId : (receiving .cmd 0xFFFF#16 0#16 0#16).rxSt = .cmd := by decide
theorem witness_RxPushInLenLoTakesTheLowOctet : (receiving .lenLo 0x7078#16 0#16 0#16).rxSt = .lenLo := by decide
/-- Both clauses at their boundary: 3 against CFG_MAXLEN 2, 3 and, for a payload of none, 0 against 0. -/
theorem witness_RxPushInLenHiJudgesTheLength :
    (receiving .lenHi 0x36F4#16 3#16 0#16).rxSt = .lenHi ∧ (receiving .lenHi 0x36F4#16 3#16 0#16).rxLen = 0x00#8 ++ 0x03#8 ∧
    { receiving .lenHi 0x36F4#16 3#16 0#16 with cfgMaxlen := 2#16 }.cfgMaxlen.toNat < (0x00#8 ++ 0x03#8).toNat ∧
    (0x00#8 ++ 0x03#8).toNat ≤ { receiving .lenHi 0x36F4#16 3#16 0#16 with cfgMaxlen := 3#16 }.cfgMaxlen.toNat ∧
    (0x00#8 ++ 0x00#8).toNat ≤ { receiving .lenHi 0x36F4#16 0#16 0#16 with cfgMaxlen := 0#16 }.cfgMaxlen.toNat := by
  decide
theorem witness_RxPushInPayloadCounts :
    (receiving .payload 0x274F#16 3#16 2#16).rxSt = .payload ∧
    (receiving .payload 0x274F#16 3#16 2#16).rxPcount.toNat < (receiving .payload 0x274F#16 3#16 2#16).rxLen.toNat := by
  decide
theorem witness_RxPushInCrcLoTakesTheLowOctet : (receiving .crcLo 0x1B85#16 3#16 3#16).rxSt = .crcLo := by decide
theorem witness_RxPushInCrcHiCompares :
    (receiving .crcHi 0x1B85#16 3#16 3#16).rxSt = .crcHi ∧
    (receiving .crcHi 0x1B85#16 3#16 3#16).rxCrcRecv = 0x00#8 ++ 0x00#8 := by
  decide
theorem witness_RxPushInDoneTrails : (receiving .done 0x1B85#16 3#16 3#16).rxSt = .done := by decide
/-- The conditions of R151's rows, each at its boundary. -/
theorem witness_RxTransitionsFollowR151 :
    { receiving .skip 0xFFFF#16 0#16 0#16 with rxSkiprem := 1#8 }.rxSkiprem.toNat = 1 ∧
    1 < { receiving .skip 0xFFFF#16 0#16 0#16 with rxSkiprem := 2#8 }.rxSkiprem.toNat ∧
    (0x02#8).toNat = 2 ∧ (0x03#8).toNat ≠ 2 ∧
    after (fun t => decide ((2#16).toNat < t.rxLen.toNat))
      (exec (.rxPush 0x00#8) { receiving .lenHi 0x36F4#16 3#16 0#16 with cfgMaxlen := 2#16 }) = some true ∧
    after (fun t => decide (t.rxLen.toNat = 0)) (exec (.rxPush 0x00#8) (receiving .lenHi 0x189A#16 0#16 0#16)) = some true ∧
    after (fun t => decide (t.rxLen.toNat ≤ (3#16).toNat))
      (exec (.rxPush 0x00#8) { receiving .lenHi 0x36F4#16 3#16 0#16 with cfgMaxlen := 3#16 }) = some true ∧
    (receiving .payload 0x274F#16 3#16 2#16).rxPcount.toNat + 1 = (receiving .payload 0x274F#16 3#16 2#16).rxLen.toNat ∧
    (receiving .payload 0xA5C2#16 3#16 1#16).rxPcount.toNat + 1 < (receiving .payload 0xA5C2#16 3#16 1#16).rxLen.toNat := by
  decide
theorem witness_ReceiverDecodesEveryFrame :
    ([0x02, 0x41] : List Octet).length = { State.reset with cfgSkip := 2#8 }.cfgSkip.toNat ∧
    (∀ o ∈ ([0x00, 0xFF] : List Octet), o ≠ 0x02#8) ∧
    ([0x02] : List Octet).length ≤ { State.reset with cfgSkip := 2#8, cfgMaxlen := 1#16 }.cfgMaxlen.toNat := by
  decide
theorem witness_TxStartEmitsTheHeader :
    State.reset.txBusy = false ∧ ¬(0x04#8 = 0#8 ∧ 0x00#8 = 0#8) ∧ sending.txBusy = true ∧
    step16 (step16 (step16 0xFFFF#16 0x30#8) 0#8) 0#8 = 0x09#8 ++ 0x39#8 := by
  decide +kernel
theorem witness_TxDataEmitsThePayload :
    sending.txBusy = true ∧ 1 < sending.txRem.toNat ∧ { sending with txRem := 1#16 }.txRem.toNat = 1 ∧
    step16 { sending with txCrc := crc16Of [0x21, 0x04, 0x00, 0x10, 0x80, 0x34] }.txCrc 0x12#8 = 0xFA#8 ++ 0x27#8 ∧
    State.reset.txBusy = false := by
  decide +kernel
theorem witness_TxRawEmitsOneOctet : State.reset.txBusy = false ∧ sending.txBusy = true := by decide
theorem witness_TransmitterEmitsEveryFrame :
    State.reset.txBusy = false ∧ ([0x10, 0x80, 0x34, 0x12] : List Octet).length ≤ 65535 := by decide
theorem witness_TransmitThenReceiveRoundTrips :
    failed.txBusy = false ∧ State.reset.rxSt = .hunt ∧
    ([0x02] : List Octet).length ≤ { State.reset with cfgMaxlen := 1#16 }.cfgMaxlen.toNat := by
  decide

/-- In the middle of a frame on both sides: one of two payload octets received (0x80, length 2, payload 28), and one of two
emitted. -/
def midFrame : State :=
  { receiving .payload (crc16Of [0x80, 0x02, 0x00, 0x28]) 2#16 1#16 with
    rxPos := 5#32, rxPstart := 4#32, txBusy := true, txRem := 1#16
    txCrc := crc16Of [0x21, 0x02, 0x00, 0x10], txout := [0xAA, 0x02, 0x21, 0x02, 0x00, 0x10] }

theorem midFrame_inv : Inv midFrame where
  busyIffRemaining := by decide
  skipIffRemaining := by decide
  headerUncounted := by decide
  payloadOpen := by decide
  payloadWhole := by decide
  txCovers := fun _ => ⟨[0xAA], [0x10], 0x21#8, 2#16, by decide, by decide, by decide +kernel⟩
  rxCovers := ⟨[0x28], by decide, by decide +kernel⟩
  rxPositioned := by show midFrame.rxPos = midFrame.rxPstart + midFrame.rxPcount.setWidth 32; decide
  matchIffAgree := by decide
  errIffCode := by decide

/-- The length's high octet comes next, and the transmit framer is idle. -/
def lengthNext : State := { receiving .lenHi (crc16Of [0x80, 0x03]) 3#16 0#16 with rxPos := 3#32 }

theorem lengthNext_inv : Inv lengthNext where
  busyIffRemaining := by decide
  skipIffRemaining := by decide
  headerUncounted := by decide
  payloadOpen := by decide
  payloadWhole := by decide
  txCovers := by intro h; exact absurd h (by decide)
  rxCovers := by
    show lengthNext.rxCrc = crc16Of [lengthNext.rxCmdid, lo8 lengthNext.rxLen]
    decide +kernel
  rxPositioned := trivial
  matchIffAgree := by decide
  errIffCode := by decide

theorem witness_TxAbortAbandonsTheFrame : Inv lengthNext ∧ lengthNext.txBusy = false := ⟨lengthNext_inv, by decide⟩
theorem witness_EveryStepKeepsTheInvariants :
    Inv midFrame ∧ after (fun t => (t.rxSt, t.rxPcount)) (step { midFrame with pending := [0x10000000021#41] }) =
      some (.crcLo, 2#16) :=
  ⟨midFrame_inv, by decide⟩
theorem witness_EveryStepKeepsTheInvariants_length :
    Inv lengthNext ∧ lengthNext.rxSt = .lenHi ∧
    after State.rxSt (step { lengthNext with pending := [0x10000000021#41] }) = some .payload :=
  ⟨lengthNext_inv, by decide, by decide⟩
theorem witness_TxoutOnlyGrows :
    exec (.txRaw 0xAA#8) State.reset = .next { State.reset with txout := [0xAA] } ∧
    { State.reset with txout := [0xAA] }.txout ≠ State.reset.txout := by
  and_intros <;> first | rfl | decide
theorem witness_OneRdataPerRead :
    step (State.reset.present 0x10400000007#41) = .next { State.reset with data := 7#32 } ∧
    isWrite 0x10400000007#41 = true ∧
    step (State.reset.present 0x00C00000000#41) = .next { State.reset with rdata := [1#32] } ∧
    isWrite 0x00C00000000#41 = false := by
  and_intros <;> rfl
theorem witness_HostElementsChangeOnlyByTheirWriters :
    exec (.wrData 7#32) State.reset = .next { State.reset with data := 7#32 } ∧ Instr.wrData 7#32 ≠ .sreset ∧
    { State.reset with data := 7#32 }.data ≠ State.reset.data ∧
    exec (.wrConfig 0x00030002#32) State.reset = .next { State.reset with cfgSkip := 2#8, cfgMaxlen := 3#16 } ∧
    exec (.crc16Feed 0x41#8) State.reset = .next { State.reset with crc16 := step16 0xFFFF#16 0x41#8 } ∧
    step16 0xFFFF#16 0x41#8 ≠ 0xFFFF#16 ∧
    exec (.crc32Feed 0x61#8) State.reset = .next { State.reset with crc32 := step32 0xFFFFFFFF#32 0x61#8 } ∧
    step32 0xFFFFFFFF#32 0x61#8 ≠ 0xFFFFFFFF#32 := by
  and_intros <;> first | rfl | decide
theorem witness_FramerElementsChangeOnlyByTheirCommands :
    exec (.crc16Feed 0x41#8) midFrame = .next { midFrame with crc16 := step16 0xFFFF#16 0x41#8 } ∧
    Instr.crc16Feed 0x41#8 ≠ .sreset ∧ Instr.crc16Feed 0x41#8 ≠ .rxReset ∧ Instr.crc16Feed 0x41#8 ≠ .txAbort := by
  and_intros <;> first | rfl | decide
/-- Each flag at each of its values, in a state from which a step is taken. -/
theorem witness_FlagsChangeOnlyAsR38Lists :
    step (failed.present 0x10000000000#41) = .next failed ∧ failed.err = true ∧ failed.rxMatch = false ∧
    failed.rxLenerr = false ∧ failed.txBusy = false ∧
    step ({ sending with rxMatch := true, rxLenerr := true }.present 0x10000000000#41) =
      .next { sending with rxMatch := true, rxLenerr := true } ∧
    { sending with rxMatch := true, rxLenerr := true }.err = false ∧ sending.txBusy = true := by
  and_intros <;> rfl
theorem witness_TransmitterIndependentOfTheRest :
    sending.txBusy = { sending with err := true, rxSt := .done }.txBusy ∧
    sending.txRem = { sending with err := true, rxSt := .done }.txRem ∧
    sending.txCrc = { sending with err := true, rxSt := .done }.txCrc ∧
    sending.txout = { sending with err := true, rxSt := .done }.txout ∧
    step (sending.present 0x10000000000#41) = .next sending ∧
    step ({ sending with err := true, rxSt := .done }.present 0x10000000000#41) =
      .next { sending with err := true, rxSt := .done } := by
  and_intros <;> rfl
theorem witness_ReceiverIndependentOfTheRest :
    (∀ r ∈ [RegName.config, .rxHdr, .rxChk, .rxCnt, .rxResult, .rxPos, .rxPstart],
      image State.reset r = image sending r) ∧
    State.reset.rxSt = sending.rxSt ∧ State.reset.rxMatch = sending.rxMatch ∧ State.reset.rxLenerr = sending.rxLenerr ∧
    step (State.reset.present 0x10000000000#41) = .next State.reset ∧
    step (sending.present 0x10000000000#41) = .next sending := by
  and_intros <;> first | decide | rfl

end Sys2Proof.Tests
end

section
/-! The family of 00_scope: what one step does to the host's queue (R8, R50), and whole frames through the two framers:
the transmitter emits the frame of R10 (R174), the receiver decodes it after any envelope and noise (R152), and the octets
emitted are received again (R175). -/

namespace Sys2Proof.Machine

open Sys2Proof.Safety

/-! ## The host's queue -/

/-- While the host supplies no operation the state stays (R8, R246; log 2). -/
theorem step_nil (s : State) (h : s.pending = []) : step s = .next s := by
  simp [step, State.fetch, h]

/-- No operation writes the host's queue. -/
theorem exec_keeps_pending (i : Instr) (s t : State) (h : exec i s = .next t) : t.pending = s.pending := by
  have hkept : exec i s = .next { t with pending := s.pending } := exec_pending i s t s.pending h
  rw [h, Host.Outcome.next.injEq] at hkept
  simpa using congrArg State.pending hkept

/-- An access, accepted or rejected, leaves the host's queue. -/
theorem perform_keeps_pending (a : AccessWord) (s t : State) (h : perform a s = .next t) : t.pending = s.pending := by
  rcases perform_inv a s t h with ⟨i, _, hexec⟩ | ⟨r, _, rfl⟩
  · exact exec_keeps_pending i s t hexec
  · obtain ⟨rd, e, c, hreject⟩ := State.reject_frame s a r
    rw [hreject]

/-- Settles O8. -/
theorem stepWithoutOperationChangesNothing : Obligations.StepWithoutOperationChangesNothing := step_nil

/-- Settles O9: a step with an operation is one access on the state whose queue is `rest`. -/
theorem operationsLeaveTheHostsQueue : Obligations.OperationsLeaveTheHostsQueue := by
  intro s t a rest hpending hstep
  rw [step_cons s a rest hpending] at hstep
  exact perform_keeps_pending a _ t hstep

/-! ## Decoding the framers' commands -/

theorem decode_accCmd (w : Word) : decode (accCmd w) = decodeCmd w := by
  have haligned : aligned 0x00#8 = true := by decide
  simp [accCmd, decode, haligned, decodeWrite]

theorem decode_encode_rxReset : decode (encode .rxReset) = .ok .rxReset := by
  simp [encode, decode_accCmd, decodeCmd, cmdRow]

theorem decode_encode_rxPush (d : Octet) : decode (encode (.rxPush d)) = .ok (.rxPush d) := by
  simp [encode, decode_accCmd, decodeCmd, cmdRow]

theorem decode_encode_txStart (id : Octet) (len : Half) :
    decode (encode (.txStart id len)) = .ok (.txStart id len) := by
  simp [encode, decode_accCmd, decodeCmd, cmdRow]

theorem decode_encode_txData (d : Octet) : decode (encode (.txData d)) = .ok (.txData d) := by
  simp [encode, decode_accCmd, decodeCmd, cmdRow]

/-! ## The checksum of a frame -/

@[simp] theorem crc16From_nil (c : Half) : crc16From c [] = c := rfl

@[simp] theorem crc16From_cons (c : Half) (o : Octet) (os : List Octet) :
    crc16From c (o :: os) = crc16From (step16 c o) os := rfl

/-- The checksum of a frame continues its header's CRC over the payload (R10, R170). -/
theorem frameCrc_eq (id : Octet) (payload : List Octet) :
    frameCrc id payload = crc16From (headerCrc id (BitVec.ofNat 16 payload.length)) payload := rfl

/-- A frame in the three parts in which the framers handle it (R10). -/
theorem frameOf_eq (id : Octet) (payload : List Octet) :
    frameOf id payload =
      [Config.sync, id, lo8 (BitVec.ofNat 16 payload.length), hi8 (BitVec.ofNat 16 payload.length)] ++ payload ++
        checksumOctets (frameCrc id payload) := rfl

/-- A payload that fits the length field has its length there (R10). -/
theorem toNat_length (payload : List Octet) (h : payload.length < 2 ^ 16) :
    (BitVec.ofNat 16 payload.length).toNat = payload.length := by
  rw [BitVec.toNat_ofNat, Nat.mod_eq_of_lt h]

/-! ## Pushing octets into the receive framer -/

/-- The state after RX.PUSH of each octet in order. -/
def rxTakes (os : List Octet) (s : State) : State := os.foldl (fun s d => rxTake d s) s

@[simp] theorem rxTakes_nil (s : State) : rxTakes [] s = s := rfl

@[simp] theorem rxTakes_cons (d : Octet) (os : List Octet) (s : State) :
    rxTakes (d :: os) s = rxTakes os (rxTake d s) := rfl

theorem rxTakes_append (as bs : List Octet) (s : State) : rxTakes (as ++ bs) s = rxTakes bs (rxTakes as s) :=
  List.foldl_append

/-- A position or a count after one octet and then `n` more. -/
theorem count_succ {w : Nat} (p : BitVec w) (n : Nat) :
    p + 1#w + BitVec.ofNat w n = p + BitVec.ofNat w (n + 1) := by
  rw [BitVec.add_assoc, ← BitVec.ofNat_add, Nat.add_comm]

/-- RX.BYTES is the pushes of its octets in order (R78). -/
theorem performs_rxBytes (os : List Octet) (s : State) : Performs s (rxBytes os) (rxTakes os s) := by
  induction os generalizing s with
  | nil => exact performs_nil s
  | cons d os ih =>
    have hpush : exec (.rxPush d) s = .next (rxTake d s) := rfl
    exact performs_cons _ _ _ _ _ (decode_encode_rxPush d) hpush (exec_keeps_pending _ _ _ hpush) (ih _)

/-- The state after RX.RESET (R140). -/
def rxRearmed (s : State) : State :=
  { s with
    rxSkiprem := s.cfgSkip, rxSt := if s.cfgSkip = 0#8 then .hunt else .skip
    rxCmdid := 0#8, rxLen := 0#16, rxPcount := 0#16, rxCrcRecv := 0#16, rxCrc := Config.crc16Seed
    rxMatch := false, rxLenerr := false, rxClass := .none, rxLast := 0#8, rxPos := 0#32, rxPstart := 0#32 }

theorem exec_rxReset (s : State) : exec .rxReset s = .next (rxRearmed s) := rfl

/-- Pushing exactly the envelope octets still to discard ends in HUNT (R142). RX_ST is SKIP while there are any (R39). -/
theorem rxTakes_envelope (os : List Octet) (s : State) (hst : s.rxSt = if s.rxSkiprem = 0#8 then .hunt else .skip)
    (hlen : os.length = s.rxSkiprem.toNat) :
    ∃ c l, rxTakes os s = { s with
      rxSt := .hunt, rxSkiprem := 0#8, rxClass := c, rxLast := l, rxPos := s.rxPos + BitVec.ofNat 32 os.length } := by
  induction os generalizing s with
  | nil =>
    have hrem : s.rxSkiprem = 0#8 := BitVec.eq_of_toNat_eq hlen.symm
    rw [if_pos hrem] at hst
    exact ⟨s.rxClass, s.rxLast, by simp [← hst, ← hrem]⟩
  | cons d os ih =>
    rw [List.length_cons] at hlen
    have hrem : s.rxSkiprem ≠ 0#8 := fun h => by simp [h] at hlen
    rw [if_neg hrem] at hst
    have hrest : os.length = (s.rxSkiprem - 1#8).toNat := by bv_omega
    obtain ⟨c, l, hos⟩ := ih (rxTake d s) (by simp [rxTake_skip d s hst, rxInSkip, hst])
      (by simpa [rxTake_skip d s hst, rxInSkip] using hrest)
    refine ⟨c, l, ?_⟩
    rw [rxTakes_cons, hos, rxTake_skip d s hst]
    simp [rxInSkip, count_succ]

/-- In HUNT octets other than the sync octet are discarded (R143). -/
theorem rxTakes_noise (os : List Octet) (s : State) (hst : s.rxSt = .hunt) (hos : ∀ o ∈ os, o ≠ Config.sync) :
    ∃ c l, rxTakes os s = { s with rxClass := c, rxLast := l, rxPos := s.rxPos + BitVec.ofNat 32 os.length } := by
  induction os generalizing s with
  | nil => exact ⟨s.rxClass, s.rxLast, by simp⟩
  | cons d os ih =>
    obtain ⟨hd, hrest⟩ := List.forall_mem_cons.mp hos
    have htake := rxTake_hunt d s hst
    rw [rxInHunt, if_neg hd] at htake
    obtain ⟨c, l, hos⟩ := ih (rxTake d s) (by rw [htake]; exact hst) hrest
    refine ⟨c, l, ?_⟩
    rw [rxTakes_cons, hos, htake]
    simp [count_succ]

/-- A header whose length CFG_MAXLEN admits opens its frame (R143..R146): the checksum comes next for length 0, the
payload otherwise. -/
theorem rxTakes_header (id : Octet) (n : Half) (s : State) (hst : s.rxSt = .hunt) (hn : n.toNat ≤ s.cfgMaxlen.toNat) :
    rxTakes [Config.sync, id, lo8 n, hi8 n] s = { s with
      rxSt := if n = 0#16 then .crcLo else .payload, rxClass := .lenHi, rxLast := hi8 n
      rxPos := s.rxPos + 4#32, rxPstart := s.rxPos + 4#32, rxCmdid := id, rxLen := n, rxPcount := 0#16
      rxCrcRecv := 0#16, rxCrc := headerCrc id n, rxMatch := false } := by
  have hadmit : lengthRejected n s.cfgMaxlen = false := by
    rw [Bool.eq_false_iff, ne_eq, lengthRejected_iff]; omega
  simp [rxTake_hunt, hst, rxInHunt, rxTake_cmd, rxInCmd, rxTake_lenLo, rxInLenLo, rxTake_lenHi, rxInLenHi,
    setWidth_octet, half_eta, hadmit, headerCrc, BitVec.add_assoc]

/-- Pushing exactly the payload octets still expected ends in CRCLO, with RXCRC continued over them (R147). RX_ST is
PAYLOAD while there are any (R39). -/
theorem rxTakes_payload (os : List Octet) (s : State)
    (hst : s.rxSt = if s.rxPcount = s.rxLen then .crcLo else .payload)
    (hlen : s.rxPcount.toNat + os.length = s.rxLen.toNat) :
    ∃ c l, rxTakes os s = { s with
      rxSt := .crcLo, rxPcount := s.rxPcount + BitVec.ofNat 16 os.length, rxCrc := crc16From s.rxCrc os
      rxClass := c, rxLast := l, rxPos := s.rxPos + BitVec.ofNat 32 os.length } := by
  induction os generalizing s with
  | nil =>
    have hcount : s.rxPcount = s.rxLen := BitVec.eq_of_toNat_eq hlen
    rw [if_pos hcount] at hst
    exact ⟨s.rxClass, s.rxLast, by simp [← hst]⟩
  | cons d os ih =>
    rw [List.length_cons] at hlen
    have hcount : s.rxPcount ≠ s.rxLen := fun h => by rw [h] at hlen; omega
    rw [if_neg hcount] at hst
    have hrest : (s.rxPcount + 1#16).toNat + os.length = s.rxLen.toNat := by bv_omega
    obtain ⟨c, l, hos⟩ := ih (rxTake d s) (by simp [rxTake_payload d s hst, rxInPayload, hst])
      (by simpa [rxTake_payload d s hst, rxInPayload] using hrest)
    refine ⟨c, l, ?_⟩
    rw [rxTakes_cons, hos, rxTake_payload d s hst]
    simp [rxInPayload, count_succ]

/-- The two octets of the computed checksum complete the frame with RX_MATCH set (R148, R149). -/
theorem rxTakes_checksum (c : Half) (s : State) (hst : s.rxSt = .crcLo) (hc : s.rxCrc = c) :
    rxTakes (checksumOctets c) s = { s with
      rxSt := .done, rxClass := .crcHi, rxLast := hi8 c, rxPos := s.rxPos + 2#32, rxCrcRecv := c, rxMatch := true } := by
  simp [checksumOctets, rxTake_crcLo, hst, rxInCrcLo, rxTake_crcHi, rxInCrcHi, setWidth_octet, half_eta,
    checksumsAgree, hc, BitVec.add_assoc]

/-- A well-formed frame pushed in HUNT is decoded, if CFG_MAXLEN admits its length (R152). RX_LENERR and what lies outside
the receive framer are kept. -/
theorem rxTakes_frameOf (id : Octet) (payload : List Octet) (s : State) (hst : s.rxSt = .hunt)
    (hlen : payload.length ≤ s.cfgMaxlen.toNat) :
    rxTakes (frameOf id payload) s = { s with
      rxSt := .done, rxClass := .crcHi, rxLast := hi8 (frameCrc id payload)
      rxPos := s.rxPos + BitVec.ofNat 32 (payload.length + 6), rxPstart := s.rxPos + 4#32
      rxCmdid := id, rxLen := BitVec.ofNat 16 payload.length, rxPcount := BitVec.ofNat 16 payload.length
      rxCrcRecv := frameCrc id payload, rxCrc := frameCrc id payload, rxMatch := true } := by
  have hn : (BitVec.ofNat 16 payload.length).toNat = payload.length := toNat_length payload (by omega)
  have hheader := rxTakes_header id (BitVec.ofNat 16 payload.length) s hst (by omega)
  obtain ⟨c, l, hpayload⟩ := rxTakes_payload payload (rxTakes [Config.sync, id, _, _] s)
    (by rw [hheader]; simp only [eq_comm]) (by rw [hheader]; simpa using hn.symm)
  have hpos : s.rxPos + 4#32 + BitVec.ofNat 32 payload.length + 2#32 =
      s.rxPos + BitVec.ofNat 32 (payload.length + 6) := by
    simp only [BitVec.add_assoc, ← BitVec.ofNat_add]
    congr 2; omega
  rw [frameOf_eq, rxTakes_append, rxTakes_append, hpayload, hheader,
    rxTakes_checksum _ _ rfl (frameCrc_eq id payload).symm]
  simp only [hpos, frameCrc_eq, BitVec.zero_add]

/-- Settles O43: RX.RESET leaves the envelope still to discard, and after envelope and noise the frame is pushed in HUNT. -/
theorem receiverDecodesEveryFrame : Obligations.ReceiverDecodesEveryFrame := by
  intro s envelope noise payload id henvelope hnoise hlen
  have hreset := exec_rxReset s
  refine performs_cons _ _ _ _ _ decode_encode_rxReset hreset (exec_keeps_pending _ _ _ hreset) ?_
  obtain ⟨c, l, hskip⟩ := rxTakes_envelope envelope (rxRearmed s) rfl henvelope
  obtain ⟨c', l', hhunt⟩ := rxTakes_noise noise (rxTakes envelope (rxRearmed s)) (by rw [hskip]) hnoise
  have hdone := rxTakes_frameOf id payload (rxTakes noise (rxTakes envelope (rxRearmed s)))
    (by rw [hhunt, hskip]) (by rw [hhunt, hskip]; exact hlen)
  have hperforms := performs_rxBytes (envelope ++ noise ++ frameOf id payload) (rxRearmed s)
  rw [rxTakes_append, rxTakes_append, hdone, hhunt, hskip] at hperforms
  simpa [rxRearmed, hi8, ← BitVec.ofNat_add, Nat.add_assoc] using hperforms

/-! ## Emitting a frame -/

/-- A payload octet with more to come: the frame stays open (R171). -/
theorem txPayload_more (d : Octet) (s : State) (h : s.txRem ≠ 1#16) :
    txPayload d s = { s with
      txout := s.txout ++ [d], txCrc := step16 s.txCrc d, txRem := s.txRem - 1#16 } := by
  have hopen : s.txRem - 1#16 ≠ 0#16 := by bv_omega
  simp [txPayload_eq, hopen]

/-- The last payload octet: the checksum follows and the frame is closed (R171). -/
theorem txPayload_last (d : Octet) (s : State) (h : s.txRem = 1#16) :
    txPayload d s = { s with
      txout := s.txout ++ (d :: checksumOctets (step16 s.txCrc d)), txCrc := step16 s.txCrc d, txRem := 0#16
      txBusy := false } := by
  simp [txPayload_eq, h]

/-- While a frame is open TX.DATA takes a payload octet (R171). -/
theorem performs_txData_cons (d : Octet) (is : List Instr) (s u : State) (hbusy : s.txBusy = true)
    (h : Performs (txPayload d s) is u) : Performs s (.txData d :: is) u := by
  have hdata : exec (.txData d) s = .next (txPayload d s) := by simp [exec, execTxData, hbusy]
  exact performs_cons _ _ _ _ _ (decode_encode_txData d) hdata (exec_keeps_pending _ _ _ hdata) h

/-- TX.DATA of exactly the payload octets still expected emits them and the checksum, and closes the frame (R171). -/
theorem performs_txData (d : Octet) (os : List Octet) (s : State) (hbusy : s.txBusy = true)
    (hrem : s.txRem.toNat = os.length + 1) :
    Performs s ((d :: os).map .txData) { s with
      txout := s.txout ++ (d :: os) ++ checksumOctets (crc16From s.txCrc (d :: os))
      txBusy := false, txRem := 0#16, txCrc := crc16From s.txCrc (d :: os) } := by
  induction os generalizing d s with
  | nil =>
    have hlast := txPayload_last d s (BitVec.eq_of_toNat_eq hrem)
    refine performs_txData_cons d _ _ _ hbusy ?_
    rw [hlast]
    simpa using performs_nil _
  | cons e os ih =>
    rw [List.length_cons] at hrem
    have hmore := txPayload_more d s (by bv_omega)
    have hrest := ih e (txPayload d s) (by rw [hmore]; exact hbusy) (by rw [hmore]; bv_omega)
    refine performs_txData_cons d _ _ _ hbusy ?_
    simpa [hmore] using hrest

/-- Settles O48: the header goes out, and then the payload, if there is any, with the checksum. -/
theorem transmitterEmitsEveryFrame : Obligations.TransmitterEmitsEveryFrame := by
  intro s id payload hidle hlen
  have hstart : exec (.txStart id (BitVec.ofNat 16 payload.length)) s =
      .next (txOpen id (BitVec.ofNat 16 payload.length) s) := by simp [exec, execTxStart, hidle]
  refine performs_cons _ _ _ _ _ (decode_encode_txStart id _) hstart (exec_keeps_pending _ _ _ hstart) ?_
  have hn := toNat_length payload (by omega)
  cases payload with
  | nil =>
    simpa [txOpen_eq, frameOf_eq, frameCrc_eq] using performs_nil _
  | cons d os =>
    have hpositive : BitVec.ofNat 16 (d :: os).length ≠ 0#16 := fun h => by
      rw [h] at hn
      exact absurd hn (by simp)
    have hdata := performs_txData d os (txOpen id (BitVec.ofNat 16 (d :: os).length) s)
      (by simpa [txOpen_eq] using hpositive) (by simpa [txOpen_eq] using hn)
    simpa only [txOpen_eq, frameOf_eq, frameCrc_eq, if_neg hpositive, List.append_nil, List.append_assoc] using hdata

/-! ## The round trip -/

/-- Settles O49: the octets emitted are the frame (R174), and the frame is decoded (R152). -/
theorem transmitThenReceiveRoundTrips : Obligations.TransmitThenReceiveRoundTrips := by
  intro s r id payload hidle hhunt hlen
  have hn := toNat_length payload (by omega)
  refine ⟨_, _, frameOf id payload, transmitterEmitsEveryFrame s id payload hidle (by omega), rfl,
    performs_rxBytes (frameOf id payload) r, ?_⟩
  rw [rxTakes_frameOf id payload r hhunt hlen]
  refine ⟨rfl, rfl, hn, rfl, ?_⟩
  simp [hn, frameOf_eq]

end Sys2Proof.Machine
end

section
/-! The family of 10_state: which operation writes which elements (R22..R36), what sets and clears each flag (R37, R38),
and that neither framer reads anything of the other (D8). Each starts from one inversion lemma, `effect_of_exec`. -/

namespace Sys2Proof.Machine

open Sys2Proof.Safety

/-! ## Every operation's effect -/

/-- Everything an operation can do, one case for each way it ends: the reads in one case, and each transmit command that
checks TX_BUSY in two. -/
inductive Effect (s : State) : Instr → State → Prop where
  | nop : Effect s .nop s
  | clrerr : Effect s .clrerr s.clearError
  | sreset : Effect s .sreset s.resetElements
  | wrData (v : Word) : Effect s (.wrData v) { s with data := v }
  | wrConfig (v : Word) : Effect s (.wrConfig v) { s with cfgSkip := skipField v, cfgMaxlen := maxlenField v }
  | crc16Init : Effect s .crc16Init { s with crc16 := Config.crc16Seed }
  | crc16Feed (d : Octet) : Effect s (.crc16Feed d) { s with crc16 := step16 s.crc16 d }
  | crc16Feed4 : Effect s .crc16Feed4 { s with crc16 := crc16From s.crc16 (octets s.data) }
  | crc32Init : Effect s .crc32Init { s with crc32 := Config.crc32Seed }
  | crc32Feed (d : Octet) : Effect s (.crc32Feed d) { s with crc32 := step32 s.crc32 d }
  | crc32Feed4 : Effect s .crc32Feed4 { s with crc32 := raw32From s.crc32 (octets s.data) }
  | read (r : RegName) : Effect s (instrRd r) (s.readReg r)
  | rxReset : Effect s .rxReset (rxRearmed s)
  | rxPush (d : Octet) : Effect s (.rxPush d) (rxTake d s)
  | txStart (id : Octet) (len : Half) (hbusy : s.txBusy = false) : Effect s (.txStart id len) (txOpen id len s)
  | txStartRaises (id : Octet) (len : Half) (hbusy : s.txBusy = true) : Effect s (.txStart id len) (s.raise .txSeq)
  | txData (d : Octet) (hbusy : s.txBusy = true) : Effect s (.txData d) (txPayload d s)
  | txDataRaises (d : Octet) (hbusy : s.txBusy = false) : Effect s (.txData d) (s.raise .txSeq)
  | txRaw (d : Octet) (hbusy : s.txBusy = false) : Effect s (.txRaw d) (s.emit [d])
  | txRawRaises (d : Octet) (hbusy : s.txBusy = true) : Effect s (.txRaw d) (s.raise .txSeq)
  | txAbort : Effect s .txAbort { s with txBusy := false, txRem := 0#16 }

theorem effect_of_exec {i : Instr} {s t : State} (h : exec i s = .next t) : Effect s i t := by
  cases i
  case txStart id len =>
    rcases execTxStart_inv id len s t h with ⟨hbusy, rfl⟩ | ⟨hbusy, rfl⟩
    · exact .txStartRaises id len hbusy
    · exact .txStart id len hbusy
  case txData d =>
    rcases execTxData_inv d s t h with ⟨hbusy, rfl⟩ | ⟨hbusy, rfl⟩
    · exact .txDataRaises d hbusy
    · exact .txData d hbusy
  case txRaw d =>
    rcases execTxRaw_inv d s t h with ⟨hbusy, rfl⟩ | ⟨hbusy, rfl⟩
    · exact .txRawRaises d hbusy
    · exact .txRaw d hbusy
  all_goals
    injection h with h
    subst h
  case rdCmd => exact .read .cmd
  case rdData => exact .read .data
  case rdConfig => exact .read .config
  case rdStatus => exact .read .status
  case rdCrc16 => exact .read .crc16
  case rdCrc32 => exact .read .crc32
  case rdCrc32Result => exact .read .crc32Result
  case rdRxHdr => exact .read .rxHdr
  case rdRxChk => exact .read .rxChk
  case rdRxCnt => exact .read .rxCnt
  case rdRxResult => exact .read .rxResult
  case rdTxInfo => exact .read .txInfo
  case rdRxPos => exact .read .rxPos
  case rdRxPstart => exact .read .rxPstart
  all_goals constructor

/-- A read is none of the operations that write an element. -/
@[simp] theorem instrRd_ne (r : RegName) :
    instrRd r ≠ .clrerr ∧ instrRd r ≠ .sreset ∧ instrRd r ≠ .rxReset ∧ instrRd r ≠ .txAbort ∧
    (∀ d, instrRd r ≠ .rxPush d) ∧ (∀ d, instrRd r ≠ .txData d) ∧ ∀ id len, instrRd r ≠ .txStart id len := by
  cases r <;> simp [instrRd]

/-! ### What a push leaves unchanged -/

@[simp] theorem rxTake_data (d : Octet) (s : State) : (rxTake d s).data = s.data := by rw [rxTake, rxAction_frame]
@[simp] theorem rxTake_cfgSkip (d : Octet) (s : State) : (rxTake d s).cfgSkip = s.cfgSkip := by
  rw [rxTake, rxAction_frame]
@[simp] theorem rxTake_cfgMaxlen (d : Octet) (s : State) : (rxTake d s).cfgMaxlen = s.cfgMaxlen := by
  rw [rxTake, rxAction_frame]
@[simp] theorem rxTake_crc16 (d : Octet) (s : State) : (rxTake d s).crc16 = s.crc16 := by rw [rxTake, rxAction_frame]
@[simp] theorem rxTake_crc32 (d : Octet) (s : State) : (rxTake d s).crc32 = s.crc32 := by rw [rxTake, rxAction_frame]
@[simp] theorem rxTake_err (d : Octet) (s : State) : (rxTake d s).err = s.err := by rw [rxTake, rxAction_frame]
@[simp] theorem rxTake_txBusy (d : Octet) (s : State) : (rxTake d s).txBusy = s.txBusy := by rw [rxTake, rxAction_frame]
@[simp] theorem rxTake_txRem (d : Octet) (s : State) : (rxTake d s).txRem = s.txRem := by rw [rxTake, rxAction_frame]
@[simp] theorem rxTake_txCrc (d : Octet) (s : State) : (rxTake d s).txCrc = s.txCrc := by rw [rxTake, rxAction_frame]
@[simp] theorem rxTake_txout (d : Octet) (s : State) : (rxTake d s).txout = s.txout := by rw [rxTake, rxAction_frame]

/-! ## The error record and the reset state -/

/-- Settles O10, from the two cases of `raise`. -/
theorem errorRecordKeepsTheFirst : Obligations.ErrorRecordKeepsTheFirst := by
  refine ⟨fun s e hclear => ?_, fun s e hset => ?_, fun s => rfl, fun s => ⟨_, rfl, rfl, rfl⟩, rfl, rfl⟩
  · simp [State.raise_cases, hclear]
  · simp [State.raise_cases, hset]

/-- Settles O50: no frame is open on either side, and no octet has been taken. -/
theorem resetMeetsTheInvariants : Obligations.ResetMeetsTheInvariants where
  busyIffRemaining := by decide
  skipIffRemaining := by decide
  headerUncounted := by decide
  payloadOpen := by decide
  payloadWhole := by decide
  txCovers := fun hbusy => absurd hbusy (by decide)
  rxCovers := .inl rfl
  rxPositioned := trivial
  matchIffAgree := by decide
  errIffCode := by decide

/-! ## What changes which element -/

/-- An operation only appends to TXOUT (R36). -/
theorem exec_txout_prefix {i : Instr} {s t : State} (h : exec i s = .next t) : s.txout <+: t.txout := by
  cases effect_of_exec h
  all_goals simp [rxRearmed, txOpen_eq, txPayload_eq]

/-- An operation that changes TXOUT is one of the three emitting commands (R36). -/
theorem exec_txout_changed {i : Instr} {s t : State} (h : exec i s = .next t) (hne : t.txout ≠ s.txout) :
    (∃ id len, i = .txStart id len) ∨ (∃ d, i = .txData d) ∨ (∃ d, i = .txRaw d) := by
  cases effect_of_exec h
  case txStart id len _ => exact .inl ⟨id, len, rfl⟩
  case txData d _ => exact .inr (.inl ⟨d, rfl⟩)
  case txRaw d _ => exact .inr (.inr ⟨d, rfl⟩)
  all_goals simp [rxRearmed] at hne

/-- Settles O52: a step is an operation, a rejected access, or nothing. -/
theorem txoutOnlyGrows : Obligations.TxoutOnlyGrows := by
  refine ⟨fun s t hstep => ?_, fun i s t => exec_txout_changed⟩
  rcases step_inv s t hstep with ⟨_, rfl⟩ | ⟨a, rest, _, hperform⟩
  · exact List.prefix_rfl
  · rcases perform_inv a _ t hperform with ⟨i, _, hexec⟩ | ⟨r, _, rfl⟩
    · exact exec_txout_prefix (s := { s with pending := rest }) hexec
    · obtain ⟨rd, e, c, hreject⟩ := State.reject_frame { s with pending := rest } a r
      rw [hreject]

/-- Settles O54, effect by effect. -/
theorem hostElementsChangeOnlyByTheirWriters : Obligations.HostElementsChangeOnlyByTheirWriters := by
  intro i s t h hne
  cases effect_of_exec h
  case sreset => exact absurd rfl hne
  all_goals simp [rxRearmed, txOpen_eq, txPayload_eq]

/-- Settles O55, effect by effect. -/
theorem framerElementsChangeOnlyByTheirCommands : Obligations.FramerElementsChangeOnlyByTheirCommands := by
  intro i s t h hne
  cases effect_of_exec h
  case sreset => exact absurd rfl hne
  all_goals simp [rxRearmed, txOpen_eq, txPayload_eq]

/-! ## The checks of R235, spelled over the decoder -/

theorem offsetOf_eq (a : AccessWord) : offsetOf a = (accOff a).toNat := by
  simp [offsetOf, accOff, BitVec.extractLsb'_toNat, Nat.shiftRight_eq_div_pow]

theorem commandOf_eq (a : AccessWord) : commandOf a = (accData a).toNat := by
  simp [commandOf, accData, BitVec.extractLsb'_toNat]

theorem isWrite_eq (a : AccessWord) : isWrite a = accWE a :=
  (BitVec.msb_eq_decide a).symm.trans (BitVec.msb_eq_getLsbD_last a)

theorem misaligned_eq (a : AccessWord) : misaligned a = !aligned (accOff a) := by
  have hoctet : ∀ off : Octet, (off.toNat % 4 != 0) = !aligned off := by decide
  rw [misaligned, offsetOf_eq, hoctet]

/-- The reserved bits of a command word are clear when nothing is left above its fields. -/
theorem extract_high_beq_zero (w : Word) (low n : Nat) (h : low + n = 32) :
    (w.extractLsb' low n == 0#n) = (w.toNat / 2 ^ low == 0) := by
  have hfits : w.toNat / 2 ^ low < 2 ^ n :=
    Nat.div_lt_of_lt_mul (by rw [← Nat.pow_add, h]; exact w.isLt)
  rw [Bool.eq_iff_iff, beq_iff_eq, beq_iff_eq, ← BitVec.toNat_inj, BitVec.extractLsb'_toNat,
    Nat.shiftRight_eq_div_pow, Nat.mod_eq_of_lt hfits, BitVec.toNat_ofNat, Nat.zero_mod]

theorem toNat_cmdOp (w : Word) : (cmdOp w).toNat = w.toNat % 256 := by
  simp [cmdOp, BitVec.extractLsb'_toNat]

/-- A transmit command that the state of the transmit framer forbids (R234). -/
def outOfSequence (s : State) : Instr → Bool
  | .txStart _ _ => s.txBusy
  | .txRaw _ => s.txBusy
  | .txData _ => !s.txBusy
  | _ => false

/-- The error that performing a decoded access records when none is recorded yet. -/
def decodedError (s : State) : Except Reject Instr → ErrCode
  | .error r => rejectCode r
  | .ok i => if outOfSequence s i then .txSeq else .none

/-- A command word with a row in the opcode map is refused for its reserved bits alone, and its operation is out of
sequence exactly when R234 says so of its OP. -/
theorem refused_of_cmdRow_some (s : State) (w : Word) (f : Format) (mk : Word → Instr)
    (h : cmdRow (cmdOp w) = some (f, mk)) :
    commandRefused w.toNat = !reservedClear f w ∧ sequenceRefused s w.toNat = outOfSequence s (mk w) := by
  unfold commandRefused sequenceRefused
  rw [← toNat_cmdOp]
  unfold cmdRow at h
  split at h <;> cases h <;>
    simp [*, reservedClear, extract_high_beq_zero, bne, outOfSequence, opsN, opsB, opsH]

theorem refused_of_cmdRow_none (w : Word) (h : cmdRow (cmdOp w) = none) : commandRefused w.toNat = true := by
  have hlists : ∀ op : Octet, (cmdRow op).isNone = true → op.toNat ∉ opsN ∧ op.toNat ∉ opsB ∧ op.toNat ∉ opsH := by
    decide
  have hop := hlists (cmdOp w) (by rw [h]; rfl)
  rw [toNat_cmdOp] at hop
  simp [commandRefused, hop]

theorem decodedError_decodeCmd (s : State) (w : Word) :
    decodedError s (decodeCmd w) =
      if commandRefused w.toNat then .illegalCmd else if sequenceRefused s w.toNat then .txSeq else .none := by
  unfold decodeCmd
  split
  · rw [refused_of_cmdRow_none w ‹_›]
    rfl
  · obtain ⟨hcommand, hsequence⟩ := refused_of_cmdRow_some s w _ _ ‹_›
    rw [hcommand, hsequence]
    split <;> simp_all [decodedError, rejectCode]

/-- A read is never out of sequence; an aligned one is refused above 0x34 (R231). -/
theorem decodedError_decodeRead (s : State) (off : Octet) (h : aligned off = true) :
    decodedError s (decodeRead off) = if 0x34 < off.toNat then .badAccess else .none := by
  have hmapped : ∀ o : Octet, aligned o = true → (readRow o).isNone = decide (0x34 < o.toNat) := by decide
  have hoff := hmapped off h
  unfold decodeRead
  cases hrow : readRow off with
  | none =>
    rw [hrow] at hoff
    simp [decodedError, rejectCode, of_decide_eq_true hoff.symm]
  | some i =>
    have hseq : outOfSequence s i = false := by
      unfold readRow at hrow
      split at hrow <;> cases hrow <;> rfl
    rw [hrow] at hoff
    simp [decodedError, hseq, of_decide_eq_false hoff.symm]

theorem decodedError_decodeWrite (s : State) (off : Octet) (w : Word) :
    decodedError s (decodeWrite off w) =
      if !([0x00, 0x04, 0x08].contains off.toNat) then .badAccess
      else if off.toNat == 0x00 then decodedError s (decodeCmd w) else .none := by
  unfold decodeWrite
  split <;> simp_all [decodedError, outOfSequence, rejectCode]

/-- The first check of R235 that fails is the one the decoder and the transmit framer report. -/
theorem firstFailingCheck_eq (s : State) (a : AccessWord) : firstFailingCheck s a = decodedError s (decode a) := by
  unfold firstFailingCheck offsetRefused
  rw [misaligned_eq, isWrite_eq, offsetOf_eq, commandOf_eq]
  unfold decode
  cases haligned : aligned (accOff a)
  · rfl
  · cases hwrite : accWE a
    · simp [decodedError_decodeRead s _ haligned]
    · simp [decodedError_decodeWrite, decodedError_decodeCmd]

/-! ## What sets and clears the flags -/

/-- RX_MATCH after a push: the verdict at CRCHI (R149), cleared by the sync of a frame (R143), kept otherwise. -/
theorem rxTake_rxMatch (d : Octet) (s : State) :
    (rxTake d s).rxMatch =
      if s.rxSt = .crcHi then checksumsAgree (half d (lo8 s.rxCrcRecv)) s.rxCrc
      else if s.rxSt = .hunt ∧ d = Config.sync then false else s.rxMatch := by
  cases hst : s.rxSt
  case hunt => by_cases hsync : d = Config.sync <;> simp [rxTake_hunt, hst, rxInHunt, hsync]
  case lenHi => simp [rxTake_lenHi, hst, rxInLenHi_eq]
  all_goals simp [rxTake, rxAction, hst, rxInSkip, rxInCmd, rxInLenLo, rxInPayload, rxInCrcLo, rxInCrcHi, rxInDone]

/-- RX_LENERR after a push: set by a rejected length (R146), kept otherwise. -/
theorem rxTake_rxLenerr (d : Octet) (s : State) :
    (rxTake d s).rxLenerr =
      if s.rxSt = .lenHi ∧ lengthRejected (half d (lo8 s.rxLen)) s.cfgMaxlen = true then true else s.rxLenerr := by
  cases hst : s.rxSt
  case hunt => by_cases hsync : d = Config.sync <;> simp [rxTake_hunt, hst, rxInHunt, hsync]
  case lenHi => simp [rxTake_lenHi, hst, rxInLenHi_eq]
  all_goals simp [rxTake, rxAction, hst, rxInSkip, rxInCmd, rxInLenLo, rxInPayload, rxInCrcLo, rxInCrcHi, rxInDone]

@[simp] theorem outOfSequence_instrRd (s : State) (r : RegName) : outOfSequence s (instrRd r) = false := by
  cases r <;> rfl

section Flags

variable {i : Instr} {s t : State}

/-- Of the operations only a transmit command out of sequence raises (R234). -/
theorem exec_err_set (h : exec i s = .next t) (hclear : s.err = false) :
    t.err = true ↔ outOfSequence s i = true := by
  cases effect_of_exec h
  case read r => simp [hclear]
  all_goals simp [*, outOfSequence, rxRearmed, txOpen_eq, txPayload_eq, State.reset]

theorem exec_err_cleared (h : exec i s = .next t) (hset : s.err = true) :
    t.err = false ↔ i = .clrerr ∨ i = .sreset := by
  cases effect_of_exec h
  all_goals simp [hset, rxRearmed, txOpen_eq, txPayload_eq, State.reset]

theorem exec_rxMatch_set (h : exec i s = .next t) (hclear : s.rxMatch = false) :
    t.rxMatch = true ↔ ∃ d, i = .rxPush d ∧ s.rxSt = .crcHi ∧ half d (lo8 s.rxCrcRecv) = s.rxCrc := by
  cases effect_of_exec h
  case rxPush d => by_cases hst : s.rxSt = .crcHi <;> simp [rxTake_rxMatch, hst, hclear, checksumsAgree]
  all_goals simp [hclear, rxRearmed, txOpen_eq, txPayload_eq, State.reset]

theorem exec_rxMatch_cleared (h : exec i s = .next t) (hset : s.rxMatch = true) :
    t.rxMatch = false ↔
      (∃ d, i = .rxPush d ∧ s.rxSt = .crcHi ∧ half d (lo8 s.rxCrcRecv) ≠ s.rxCrc) ∨
      (i = .rxPush Config.sync ∧ s.rxSt = .hunt) ∨ i = .rxReset ∨ i = .sreset := by
  cases effect_of_exec h
  case rxPush d =>
    by_cases hst : s.rxSt = .crcHi
    · simp [rxTake_rxMatch, hst, checksumsAgree]
    · simp [rxTake_rxMatch, hst, hset, and_comm]
  all_goals simp [hset, rxRearmed, txOpen_eq, txPayload_eq, State.reset]

theorem exec_rxLenerr_set (h : exec i s = .next t) (hclear : s.rxLenerr = false) :
    t.rxLenerr = true ↔
      ∃ d, i = .rxPush d ∧ s.rxSt = .lenHi ∧ s.cfgMaxlen.toNat < (half d (lo8 s.rxLen)).toNat := by
  cases effect_of_exec h
  case rxPush d => simp [rxTake_rxLenerr, hclear, lengthRejected_iff]
  all_goals simp [hclear, rxRearmed, txOpen_eq, txPayload_eq, State.reset]

theorem exec_rxLenerr_cleared (h : exec i s = .next t) (hset : s.rxLenerr = true) :
    t.rxLenerr = false ↔ i = .rxReset ∨ i = .sreset := by
  cases effect_of_exec h
  case rxPush d => simp [rxTake_rxLenerr, hset]
  all_goals simp [hset, rxRearmed, txOpen_eq, txPayload_eq, State.reset]

theorem exec_txBusy_set (h : exec i s = .next t) (hclear : s.txBusy = false) :
    t.txBusy = true ↔ ∃ id len, i = .txStart id len ∧ 0 < len.toNat := by
  cases effect_of_exec h
  case txStart id len _ =>
    have hpos : len ≠ 0#16 ↔ 0 < len.toNat := by bv_omega
    simp [txOpen_eq, hpos]
  all_goals simp_all [rxRearmed, State.reset]

theorem exec_txBusy_cleared (h : exec i s = .next t) (hset : s.txBusy = true) :
    t.txBusy = false ↔ (∃ d, i = .txData d ∧ s.txRem.toNat = 1) ∨ i = .txAbort ∨ i = .sreset := by
  cases effect_of_exec h
  case txData d _ =>
    have hlast : s.txRem - 1#16 = 0#16 ↔ s.txRem.toNat = 1 := by bv_omega
    simp [txPayload_eq, hset, hlast]
  all_goals simp_all [rxRearmed, State.reset]

end Flags

/-- A rejected access changes no flag but ERR, which it sets (R232). -/
theorem State.reject_flags (s : State) (a : AccessWord) (r : Reject) :
    (s.reject a r).err = true ∧ (s.reject a r).rxMatch = s.rxMatch ∧ (s.reject a r).rxLenerr = s.rxLenerr ∧
    (s.reject a r).txBusy = s.txBusy := by
  rcases State.reject_cases s a r with ⟨_, h⟩ | ⟨_, h⟩ <;> simp [h]

/-- Settles O56: an accepted access is an operation, whose flags are known; a rejected one only raises. -/
theorem flagsChangeOnlyAsR38Lists : Obligations.FlagsChangeOnlyAsR38Lists := by
  intro s t a hstep
  rw [step_present] at hstep
  rw [firstFailingCheck_eq]
  rcases perform_inv a s t hstep with ⟨i, hdecode, hexec⟩ | ⟨r, hdecode, rfl⟩
  · have herr : decodedError s (.ok i) ≠ .none ↔ outOfSequence s i = true := by simp [decodedError]
    simp only [hdecode, Except.ok.injEq, herr]
    exact ⟨exec_err_set hexec, exec_err_cleared hexec, exec_rxMatch_set hexec, exec_rxMatch_cleared hexec,
      exec_rxLenerr_set hexec, exec_rxLenerr_cleared hexec, exec_txBusy_set hexec, exec_txBusy_cleared hexec⟩
  · have herr : decodedError s (.error r) ≠ .none := by cases r <;> simp [decodedError, rejectCode]
    simp +contextual [hdecode, herr, State.reject_flags s a r]

/-! ## Independence of the two framers -/

/-- What a part of the state becomes is decided by that part alone: an operation changes it as on the state that `part`
leaves, and a rejected access does not change it. -/
structure SelfDetermined (part : State → State) : Prop where
  exec_part : ∀ (i : Instr) (s t : State), exec i s = .next t →
    ∃ u, exec i (part s) = .next u ∧ part t = part u
  reject_part : ∀ (s : State) (a : AccessWord) (r : Reject), part (s.reject a r) = part s

/-- Two states with the same self-determined part have the same part after the same access. -/
theorem SelfDetermined.step_agrees {part : State → State} (hpart : SelfDetermined part) {a : AccessWord}
    {s s' t t' : State} (hagree : part s = part s') (h : step (s.present a) = .next t)
    (h' : step (s'.present a) = .next t') : part t = part t' := by
  rw [step_present] at h h'
  unfold perform at h h'
  cases hdecode : decode a with
  | ok i =>
    rw [hdecode] at h h'
    obtain ⟨u, hu, ht⟩ := hpart.exec_part i s t h
    obtain ⟨u', hu', ht'⟩ := hpart.exec_part i s' t' h'
    rw [hagree, hu', Host.Outcome.next.injEq] at hu
    rw [ht, ht', hu]
  | error r =>
    rw [hdecode, Host.Outcome.next.injEq] at h h'
    rw [← h, ← h', hpart.reject_part, hpart.reject_part, hagree]

/-! ### The transmit framer -/

/-- The transmit framer and TXOUT, and everything else as at reset. -/
def State.txPart (s : State) : State :=
  { State.reset with txBusy := s.txBusy, txRem := s.txRem, txCrc := s.txCrc, txout := s.txout }

theorem txPart_eq_iff (s s' : State) :
    s.txPart = s'.txPart ↔
      s.txBusy = s'.txBusy ∧ s.txRem = s'.txRem ∧ s.txCrc = s'.txCrc ∧ s.txout = s'.txout := by
  simp [State.txPart]

/-- What TX.START and TX.DATA do to the transmit framer while TX_BUSY admits them, they do to it alone. -/
theorem txOpen_txPart (id : Octet) (len : Half) (s : State) :
    (txOpen id len s).txPart = (txOpen id len s.txPart).txPart := by
  rw [txOpen_eq, txOpen_eq]
  rfl

theorem txPayload_txPart (d : Octet) (s : State) : (txPayload d s).txPart = (txPayload d s.txPart).txPart := by
  rw [txPayload_eq, txPayload_eq]
  rfl

theorem rxTake_txPart (d : Octet) (s : State) : (rxTake d s).txPart = s.txPart := by simp [txPart_eq_iff]

theorem txPart_selfDetermined : SelfDetermined State.txPart where
  exec_part i s t h := by
    cases effect_of_exec h
    case read r => exact ⟨s.txPart.readReg r, by cases r <;> rfl, rfl⟩
    case rxPush d => exact ⟨rxTake d s.txPart, rfl, by rw [rxTake_txPart, rxTake_txPart]; rfl⟩
    case txStart id len hbusy => exact ⟨_, if_neg (Bool.eq_false_iff.mp hbusy), txOpen_txPart id len s⟩
    case txStartRaises id len hbusy => exact ⟨_, if_pos hbusy, rfl⟩
    case txData d hbusy => exact ⟨_, if_pos hbusy, txPayload_txPart d s⟩
    case txDataRaises d hbusy => exact ⟨_, if_neg (Bool.eq_false_iff.mp hbusy), rfl⟩
    case txRaw d hbusy => exact ⟨_, if_neg (Bool.eq_false_iff.mp hbusy), rfl⟩
    case txRawRaises d hbusy => exact ⟨_, if_pos hbusy, rfl⟩
    all_goals exact ⟨_, rfl, rfl⟩
  reject_part s a r := by
    obtain ⟨rd, e, c, h⟩ := State.reject_frame s a r
    rw [h]
    rfl

/-- Settles O57: the elements named are the self-determined part of the transmit framer. -/
theorem transmitterIndependentOfTheRest : Obligations.TransmitterIndependentOfTheRest := by
  intro a s s' t t' hbusy hrem hcrc hout h h'
  rw [← txPart_eq_iff]
  exact txPart_selfDetermined.step_agrees ((txPart_eq_iff s s').mpr ⟨hbusy, hrem, hcrc, hout⟩) h h'

/-! ### The receive framer -/

/-- CONFIG and the receive framer, and everything else as at reset. -/
def State.rxPart (s : State) : State :=
  { State.reset with
    cfgSkip := s.cfgSkip, cfgMaxlen := s.cfgMaxlen, rxSt := s.rxSt, rxSkiprem := s.rxSkiprem, rxCmdid := s.rxCmdid
    rxLen := s.rxLen, rxPcount := s.rxPcount, rxCrcRecv := s.rxCrcRecv, rxCrc := s.rxCrc, rxMatch := s.rxMatch
    rxLenerr := s.rxLenerr, rxClass := s.rxClass, rxLast := s.rxLast, rxPos := s.rxPos, rxPstart := s.rxPstart }

/-- A push does to the receive framer what it does to it alone. -/
theorem rxTake_rxPart (d : Octet) (s : State) : (rxTake d s).rxPart = (rxTake d s.rxPart).rxPart := by
  have hst : s.rxPart.rxSt = s.rxSt := rfl
  cases h : s.rxSt <;> simp only [rxTake, rxAction, hst, h]
  case hunt =>
    unfold rxInHunt
    split <;> rfl
  case lenHi =>
    rw [rxInLenHi_eq, rxInLenHi_eq]
    rfl
  all_goals rfl

/-- No transmit command writes the receive framer: on `rxPart`, where no frame is open, TX.START emits and TX.DATA raises,
whatever either does on the state itself. -/
theorem rxPart_selfDetermined : SelfDetermined State.rxPart where
  exec_part i s t h := by
    cases effect_of_exec h
    case read r => exact ⟨s.rxPart.readReg r, by cases r <;> rfl, rfl⟩
    case rxPush d => exact ⟨rxTake d s.rxPart, rfl, rxTake_rxPart d s⟩
    case txStart id len _ => exact ⟨txOpen id len s.rxPart, rfl, by simp [txOpen_eq, State.rxPart]⟩
    case txStartRaises id len _ => exact ⟨txOpen id len s.rxPart, rfl, by simp [txOpen_eq, State.rxPart]⟩
    case txData d _ => exact ⟨s.rxPart.raise .txSeq, rfl, by simp [txPayload_eq, State.rxPart]⟩
    all_goals exact ⟨_, rfl, rfl⟩
  reject_part s a r := by
    obtain ⟨rd, e, c, h⟩ := State.reject_frame s a r
    rw [h]
    rfl

/-! ### The registers show the receive framer -/

theorem append_eq_append_iff {m n : Nat} (x x' : BitVec m) (y y' : BitVec n) :
    x ++ y = x' ++ y' ↔ x = x' ∧ y = y' := by
  refine ⟨fun h => ⟨?_, ?_⟩, fun ⟨hx, hy⟩ => by rw [hx, hy]⟩
  · simpa only [BitVec.extractLsb'_append_eq_left] using congrArg (BitVec.extractLsb' n m) h
  · simpa only [BitVec.extractLsb'_append_eq_right] using congrArg (BitVec.extractLsb' 0 n) h

theorem RxClass.code_eq_iff (c c' : RxClass) : c.code = c'.code ↔ c = c' := by
  have hcodes : Function.LeftInverse RxClass.ofNat (fun c => c.code.toNat) := by rintro ⟨⟩ <;> rfl
  exact ⟨fun h => hcodes.injective (congrArg BitVec.toNat h), fun h => h ▸ rfl⟩

section Registers

variable (s s' : State)

theorem image_config_eq_iff :
    image s .config = image s' .config ↔ s.cfgMaxlen = s'.cfgMaxlen ∧ s.cfgSkip = s'.cfgSkip := by
  change (s.cfgMaxlen ++ 0x00#8 ++ s.cfgSkip : BitVec (16 + 8 + 8)) = s'.cfgMaxlen ++ 0x00#8 ++ s'.cfgSkip ↔ _
  rw [append_eq_append_iff, BitVec.append_left_inj]

theorem image_rxHdr_eq_iff : image s .rxHdr = image s' .rxHdr ↔ s.rxLen = s'.rxLen ∧ s.rxCmdid = s'.rxCmdid := by
  change (s.rxLen ++ 0x00#8 ++ s.rxCmdid : BitVec (16 + 8 + 8)) = s'.rxLen ++ 0x00#8 ++ s'.rxCmdid ↔ _
  rw [append_eq_append_iff, BitVec.append_left_inj]

theorem image_rxChk_eq_iff : image s .rxChk = image s' .rxChk ↔ s.rxCrc = s'.rxCrc ∧ s.rxCrcRecv = s'.rxCrcRecv :=
  append_eq_append_iff s.rxCrc s'.rxCrc s.rxCrcRecv s'.rxCrcRecv

theorem image_rxCnt_eq_iff :
    image s .rxCnt = image s' .rxCnt ↔ s.rxSkiprem = s'.rxSkiprem ∧ s.rxPcount = s'.rxPcount := by
  change (0x00#8 ++ s.rxSkiprem ++ s.rxPcount : BitVec (8 + 8 + 16)) = 0x00#8 ++ s'.rxSkiprem ++ s'.rxPcount ↔ _
  rw [append_eq_append_iff, BitVec.append_right_inj]

theorem image_rxResult_eq_iff :
    image s .rxResult = image s' .rxResult ↔ s.rxLast = s'.rxLast ∧ s.rxClass = s'.rxClass := by
  change (0x0000#16 ++ s.rxLast ++ 0x0#4 ++ s.rxClass.code : BitVec (16 + 8 + 4 + 4)) =
    0x0000#16 ++ s'.rxLast ++ 0x0#4 ++ s'.rxClass.code ↔ _
  rw [append_eq_append_iff, BitVec.append_left_inj, BitVec.append_right_inj, RxClass.code_eq_iff]

/-- States agree on CONFIG and the receive framer exactly when the registers and flags that show them agree. -/
theorem rxPart_eq_iff :
    s.rxPart = s'.rxPart ↔
      (∀ r ∈ [RegName.config, .rxHdr, .rxChk, .rxCnt, .rxResult, .rxPos, .rxPstart], image s r = image s' r) ∧
      s.rxSt = s'.rxSt ∧ s.rxMatch = s'.rxMatch ∧ s.rxLenerr = s'.rxLenerr := by
  have hpos : image s .rxPos = image s' .rxPos ↔ s.rxPos = s'.rxPos := Iff.rfl
  have hpstart : image s .rxPstart = image s' .rxPstart ↔ s.rxPstart = s'.rxPstart := Iff.rfl
  simp only [List.forall_mem_cons, image_config_eq_iff, image_rxHdr_eq_iff, image_rxChk_eq_iff,
    image_rxCnt_eq_iff, image_rxResult_eq_iff, hpos, hpstart, State.rxPart, State.mk.injEq, true_and, and_true]
  grind

end Registers

/-- Settles O58: the registers and flags named show the self-determined part of the receive framer. -/
theorem receiverIndependentOfTheRest : Obligations.ReceiverIndependentOfTheRest := by
  intro a s s' t t' himage hst hmatch hlenerr h h'
  rw [← rxPart_eq_iff]
  exact rxPart_selfDetermined.step_agrees ((rxPart_eq_iff s s').mpr ⟨himage, hst, hmatch, hlenerr⟩) h h'

end Sys2Proof.Machine
end

section
/-! The family of 20_memory: a step runs the operation its access decodes to (R74), a write returns nothing and a read
one RDATA (R50), and the engines take the octets of DATA in the order in which CRC16.BYTES and CRC32.BYTES pack them
(R55, R78). -/

namespace Sys2Proof.Machine

open Sys2Proof.Safety

/-! ## One access -/

theorem perform_of_decode_ok {a : AccessWord} {i : Instr} (h : decode a = .ok i) (s : State) :
    perform a s = exec i s := by
  simp [perform, h]

/-- Settles O6: a step with an operation is one access, and that access decodes to `i`. -/
theorem stepRunsTheDecodedOperation : Obligations.StepRunsTheDecodedOperation := by
  intro s a rest i hpending hdecode _
  rw [step_cons s a rest hpending, perform_of_decode_ok hdecode]

/-! ## The RDATA returned -/

/-- Every command is encoded as a write (R70). -/
theorem accWE_encode_of_cmdRow {op : Octet} {f : Format} {mk : Word → Instr} (h : cmdRow op = some (f, mk))
    (w : Word) : accWE (encode (mk w)) = true := by
  unfold cmdRow at h
  split at h <;> cases h <;> exact accWE_accWrite _ _

@[simp] theorem accWE_encode_instrRd (r : RegName) : accWE (encode (instrRd r)) = false := by
  cases r <;> exact accWE_accRead _

/-- An accepted access is a write exactly when its operation is encoded as one. -/
theorem accWE_encode_of_decode {a : AccessWord} {i : Instr} (h : decode a = .ok i) : accWE (encode i) = accWE a := by
  obtain ⟨_, ⟨hwrite, hdecoded⟩ | ⟨hread, hrow⟩⟩ := decode_ok_inv a i h
  · rw [hwrite]
    unfold decodeWrite at hdecoded
    split at hdecoded
    · obtain ⟨f, mk, hcmd, _, rfl⟩ := decodeCmd_ok_inv (accData a) i hdecoded
      exact accWE_encode_of_cmdRow hcmd (accData a)
    · cases hdecoded; exact accWE_accWrite _ _
    · cases hdecoded; exact accWE_accWrite _ _
    · cases hdecoded
  · rw [hread]
    unfold readRow at hrow
    split at hrow <;> cases hrow <;> exact accWE_accRead _

@[simp] theorem rxTake_rdata (d : Octet) (s : State) : (rxTake d s).rdata = s.rdata := by rw [rxTake, rxAction_frame]

section Rdata

variable {i : Instr} {s t : State}

/-- A write returns nothing (R50). -/
theorem exec_rdata_of_write (h : exec i s = .next t) (hwrite : accWE (encode i) = true) : t.rdata = s.rdata := by
  cases effect_of_exec h
  case read r => simp at hwrite
  all_goals simp [rxRearmed, txOpen_eq, txPayload_eq]

/-- A read returns one RDATA (R50). -/
theorem exec_rdata_of_read (h : exec i s = .next t) (hread : accWE (encode i) = false) :
    ∃ v : Word, t.rdata = s.rdata ++ [v] := by
  cases effect_of_exec h
  case read r => exact ⟨image s r, rfl⟩
  all_goals simp [encode, accCmd] at hread

end Rdata

/-- Settles O53: an accepted access performs an operation encoded with its WE, and a rejected read returns 0 (R53). -/
theorem oneRdataPerRead : Obligations.OneRdataPerRead := by
  intro s t a hstep
  rw [step_present] at hstep
  rw [isWrite_eq]
  rcases perform_inv a s t hstep with ⟨i, hdecode, hexec⟩ | ⟨r, _, rfl⟩
  · rw [← accWE_encode_of_decode hdecode]
    exact ⟨exec_rdata_of_write hexec, exec_rdata_of_read hexec⟩
  · rcases State.reject_cases s a r with ⟨hwrite, hreject⟩ | ⟨hread, hreject⟩
    · simp [hwrite, hreject]
    · simp [hread, hreject]

/-! ## The octets of DATA -/

/-- FEED4 takes the octets of a packed word in the order of the buffer (R55). -/
theorem octets_pack (b0 b1 b2 b3 : Octet) : octets (pack b0 b1 b2 b3) = [b0, b1, b2, b3] := by
  have h0 : (b3 ++ b2 ++ b1 ++ b0).extractLsb' 0 8 = b0 := BitVec.extractLsb'_append_eq_right
  have h1 : (b3 ++ b2 ++ b1 ++ b0).extractLsb' 8 8 = b1 := by
    rw [BitVec.extractLsb'_append_eq_of_le (by decide), BitVec.extractLsb'_append_eq_right]
  have h2 : (b3 ++ b2 ++ b1 ++ b0).extractLsb' 16 8 = b2 := by
    rw [BitVec.extractLsb'_append_eq_of_le (by decide), BitVec.extractLsb'_append_eq_of_le (by decide),
      BitVec.extractLsb'_append_eq_right]
  have h3 : (b3 ++ b2 ++ b1 ++ b0).extractLsb' 24 8 = b3 := by
    rw [BitVec.extractLsb'_append_eq_of_le (by decide), BitVec.extractLsb'_append_eq_of_le (by decide),
      BitVec.extractLsb'_append_eq_left]
  simp only [octets, pack, List.cons.injEq, and_true]
  exact ⟨h0, h1, h2, h3⟩

/-- DATA after CRC16.BYTES or CRC32.BYTES: the last full group of four octets, packed, or `w` where there is none
(R78). -/
def dataAfterFeed (w : Word) : List Octet → Word
  | b0 :: b1 :: b2 :: b3 :: os => dataAfterFeed (pack b0 b1 b2 b3) os
  | _ => w

theorem dataAfterFeed_group (w : Word) (b0 b1 b2 b3 : Octet) (os : List Octet) :
    dataAfterFeed w (b0 :: b1 :: b2 :: b3 :: os) = dataAfterFeed (pack b0 b1 b2 b3) os := rfl

theorem dataAfterFeed_of_length_lt (w : Word) {os : List Octet} (h : os.length < 4) : dataAfterFeed w os = w := by
  unfold dataAfterFeed
  split
  · simp at h; omega
  · rfl

/-- Octets that hold no full group are at most three. -/
theorem length_lt_four_of_no_group (os : List Octet)
    (h : ∀ b0 b1 b2 b3 rest, os = b0 :: b1 :: b2 :: b3 :: rest → False) : os.length < 4 := by
  match os, h with
  | [], _ | [_], _ | [_, _], _ | [_, _, _], _ => simp
  | b0 :: b1 :: b2 :: b3 :: rest, h => exact (h b0 b1 b2 b3 rest rfl).elim

/-- The last full group is the one that fewer than four octets follow. -/
theorem dataAfterFeed_append_group (w : Word) (front : List Octet) (b0 b1 b2 b3 : Octet) {rest : List Octet}
    (hfront : front.length % 4 = 0) (hrest : rest.length < 4) :
    dataAfterFeed w (front ++ [b0, b1, b2, b3] ++ rest) = pack b0 b1 b2 b3 := by
  induction front using feedBytes.induct generalizing w with
  | case1 c0 c1 c2 c3 front ih =>
    simp only [List.length_cons] at hfront
    exact ih (pack c0 c1 c2 c3) (by omega)
  | case2 front hnogroup =>
    have hlt := length_lt_four_of_no_group front hnogroup
    obtain rfl : front = [] := List.eq_nil_of_length_eq_zero (by omega)
    exact dataAfterFeed_of_length_lt (pack b0 b1 b2 b3) hrest

/-! ## The two engines -/

/-- The state after WR DATA (R193). -/
def State.withData (s : State) (w : Word) : State := { s with data := w }

theorem exec_wrData (w : Word) (s : State) : exec (.wrData w) s = .next (s.withData w) := rfl

@[simp] theorem State.withData_data (s : State) (w : Word) : (s.withData w).data = w := rfl

@[simp] theorem State.withData_self (s : State) : s.withData s.data = s := rfl

@[simp] theorem State.withData_withData (s : State) (v w : Word) : (s.withData v).withData w = s.withData w := rfl

/-- The operations `feed4` and `feed` of a CRC engine take octets in order, as `fed` does at once, and leave DATA (R103,
R104, R123, R124). -/
structure FeedsOctets (feed4 : Instr) (feed : Octet → Instr) (fed : List Octet → State → State) : Prop where
  decode_feed4 : decode (encode feed4) = .ok feed4
  decode_feed : ∀ d, decode (encode (feed d)) = .ok (feed d)
  exec_feed4 : ∀ s, exec feed4 s = .next (fed (octets s.data) s)
  exec_feed : ∀ d s, exec (feed d) s = .next (fed [d] s)
  fed_nil : ∀ s, fed [] s = s
  fed_append : ∀ as bs s, fed (as ++ bs) s = fed bs (fed as s)
  fed_data : ∀ os s w, fed os (s.withData w) = (fed os s).withData w

/-- Performing one more operation first; none writes the host's queue. -/
theorem performs_cons_exec {i : Instr} {is : List Instr} {s t u : State} (hdecode : decode (encode i) = .ok i)
    (hexec : exec i s = .next t) (h : Performs t is u) : Performs s (i :: is) u :=
  performs_cons i is s t u hdecode hexec (exec_keeps_pending i s t hexec) h

theorem decode_encode_wrData (v : Word) : decode (encode (.wrData v)) = .ok (.wrData v) := by
  have haligned : aligned 0x04#8 = true := by decide
  simp [encode, decode, haligned, decodeWrite]

namespace FeedsOctets

variable {feed4 : Instr} {feed : Octet → Instr} {fed : List Octet → State → State}

/-- Octets fed one by one leave DATA. -/
theorem performs_map (h : FeedsOctets feed4 feed fed) (os : List Octet) (s : State) :
    Performs s (os.map feed) (fed os s) := by
  induction os generalizing s with
  | nil => rw [h.fed_nil]; exact performs_nil s
  | cons d os ih =>
    have hcons : fed (d :: os) s = fed os (fed [d] s) := h.fed_append [d] os s
    rw [hcons]
    exact performs_cons_exec (h.decode_feed d) (h.exec_feed d s) (ih _)

/-- A group of four octets goes through DATA, and the octets after the last group are fed one by one (R78). -/
theorem performs_feedBytes (h : FeedsOctets feed4 feed fed) (os : List Octet) (s : State) :
    Performs s (feedBytes feed4 feed os) ((fed os s).withData (dataAfterFeed s.data os)) := by
  fun_induction feedBytes feed4 feed os generalizing s with
  | case1 b0 b1 b2 b3 os ih =>
    have hgroup : fed (b0 :: b1 :: b2 :: b3 :: os) s = fed os (fed [b0, b1, b2, b3] s) :=
      h.fed_append [b0, b1, b2, b3] os s
    have hrest := ih ((fed [b0, b1, b2, b3] s).withData (pack b0 b1 b2 b3))
    rw [h.fed_data, ← hgroup, State.withData_withData, State.withData_data, ← dataAfterFeed_group s.data] at hrest
    refine performs_cons_exec (decode_encode_wrData _) (exec_wrData _ s) ?_
    refine performs_cons_exec h.decode_feed4 (h.exec_feed4 _) ?_
    rwa [State.withData_data, octets_pack, h.fed_data]
  | case2 os hnogroup =>
    have hkept : (fed os s).withData s.data = fed os s := by rw [← h.fed_data, State.withData_self]
    rw [dataAfterFeed_of_length_lt s.data (length_lt_four_of_no_group os hnogroup), hkept]
    exact h.performs_map os s

end FeedsOctets

/-- CRC16.FEED and CRC16.FEED4 continue the CRC-16 over their octets (R103, R104). -/
theorem crc16_feedsOctets :
    FeedsOctets .crc16Feed4 .crc16Feed fun os s => { s with crc16 := crc16From s.crc16 os } where
  decode_feed4 := by simp [encode, decode_accCmd, decodeCmd, cmdRow]
  decode_feed d := by simp [encode, decode_accCmd, decodeCmd, cmdRow]
  exec_feed4 _ := rfl
  exec_feed _ _ := rfl
  fed_nil _ := rfl
  fed_append as bs s := by simp [crc16From]
  fed_data _ _ _ := rfl

/-- CRC32.FEED and CRC32.FEED4 continue the raw CRC-32 over their octets (R123, R124). -/
theorem crc32_feedsOctets :
    FeedsOctets .crc32Feed4 .crc32Feed fun os s => { s with crc32 := raw32From s.crc32 os } where
  decode_feed4 := by simp [encode, decode_accCmd, decodeCmd, cmdRow]
  decode_feed d := by simp [encode, decode_accCmd, decodeCmd, cmdRow]
  exec_feed4 _ := rfl
  exec_feed _ _ := rfl
  fed_nil _ := rfl
  fed_append as bs s := by simp [raw32From]
  fed_data _ _ _ := rfl

/-- Settles O30: both engines feed octets alike, and what DATA holds afterwards does not depend on the engine. -/
theorem feedBytesFoldsEveryOctet : Obligations.FeedBytesFoldsEveryOctet := by
  intro s groups rest hgroups hrest
  refine ⟨_, _, crc16_feedsOctets.performs_feedBytes (groups ++ rest) s, rfl,
    crc32_feedsOctets.performs_feedBytes (groups ++ rest) s, rfl, ?_, ?_⟩
  · rintro rfl
    have hkept := dataAfterFeed_of_length_lt s.data hrest
    exact ⟨hkept, hkept⟩
  · rintro front b0 b1 b2 b3 rfl
    have hfront : front.length % 4 = 0 := by simpa using hgroups
    have hlast := dataAfterFeed_append_group s.data front b0 b1 b2 b3 hfront hrest
    exact ⟨hlast, hlast⟩

end Sys2Proof.Machine
end

section
/-! The family of 30_encoding: the decoder inverts the encoder (R70..R74), it accepts exactly the words of the opcode
table (R73, R75), and the assembler encodes every operand whole (R77, R79). -/

namespace Sys2Proof.Machine

open Sys2Proof.Safety

/-! ## The forms of an operation -/

/-- Every operation is a format-N or format-B command, TX.START, a register write or a register read (R70, R71): the
forms in which the assembler writes it (R77). -/
theorem instr_cases_form {motive : Instr → Prop} (formatN : ∀ op, motive (instrN op))
    (formatB : ∀ op d, motive (instrB op d)) (txStart : ∀ id len, motive (.txStart id len))
    (wrData : ∀ v, motive (.wrData v)) (wrConfig : ∀ v, motive (.wrConfig v)) (rd : ∀ r, motive (instrRd r)) :
    ∀ i, motive i
  | .nop => formatN .nop
  | .crc16Init => formatN .crc16Init
  | .crc16Feed d => formatB .crc16Feed d
  | .crc16Feed4 => formatN .crc16Feed4
  | .crc32Init => formatN .crc32Init
  | .crc32Feed d => formatB .crc32Feed d
  | .crc32Feed4 => formatN .crc32Feed4
  | .rxReset => formatN .rxReset
  | .rxPush d => formatB .rxPush d
  | .txStart id len => txStart id len
  | .txData d => formatB .txData d
  | .txRaw d => formatB .txRaw d
  | .txAbort => formatN .txAbort
  | .clrerr => formatN .clrerr
  | .sreset => formatN .sreset
  | .wrData v => wrData v
  | .wrConfig v => wrConfig v
  | .rdCmd => rd .cmd
  | .rdData => rd .data
  | .rdConfig => rd .config
  | .rdStatus => rd .status
  | .rdCrc16 => rd .crc16
  | .rdCrc32 => rd .crc32
  | .rdCrc32Result => rd .crc32Result
  | .rdRxHdr => rd .rxHdr
  | .rdRxChk => rd .rxChk
  | .rdRxCnt => rd .rxCnt
  | .rdRxResult => rd .rxResult
  | .rdTxInfo => rd .txInfo
  | .rdRxPos => rd .rxPos
  | .rdRxPstart => rd .rxPstart

/-- OP of a format-N command (R73). -/
def opcodeN : OpN → Octet
  | .nop => 0x00#8
  | .crc16Init => 0x01#8
  | .crc16Feed4 => 0x03#8
  | .crc32Init => 0x11#8
  | .crc32Feed4 => 0x13#8
  | .rxReset => 0x20#8
  | .txAbort => 0x33#8
  | .clrerr => 0xF0#8
  | .sreset => 0xFF#8

/-- OP of a format-B command (R73). -/
def opcodeB : OpB → Octet
  | .crc16Feed => 0x02#8
  | .crc32Feed => 0x12#8
  | .rxPush => 0x21#8
  | .txData => 0x31#8
  | .txRaw => 0x32#8

theorem encode_instrN (op : OpN) : encode (instrN op) = accCmd (wordN (opcodeN op)) := by cases op <;> rfl

theorem encode_instrB (op : OpB) (d : Octet) : encode (instrB op d) = accCmd (wordB d (opcodeB op)) := by
  cases op <;> rfl

theorem encode_instrRd (r : RegName) : encode (instrRd r) = accRead (offset r) := by cases r <;> rfl

theorem cmdRow_opcodeN (op : OpN) : cmdRow (opcodeN op) = some (.N, fun _ => instrN op) := by cases op <;> rfl

theorem cmdRow_opcodeB (op : OpB) : cmdRow (opcodeB op) = some (.B, fun w => instrB op (cmdD w)) := by
  cases op <;> rfl

theorem readRow_offset (r : RegName) : readRow (offset r) = some (instrRd r) := by cases r <;> rfl

@[simp] theorem aligned_offset (r : RegName) : aligned (offset r) = true := by cases r <;> rfl

/-! ## Decoding what is encoded -/

theorem decode_encode_instrN (op : OpN) : decode (encode (instrN op)) = .ok (instrN op) := by
  simp [encode_instrN, decode_accCmd, decodeCmd, cmdRow_opcodeN]

theorem decode_encode_instrB (op : OpB) (d : Octet) : decode (encode (instrB op d)) = .ok (instrB op d) := by
  simp [encode_instrB, decode_accCmd, decodeCmd, cmdRow_opcodeB]

theorem decode_encode_wrConfig (v : Word) : decode (encode (.wrConfig v)) = .ok (.wrConfig v) := by
  have haligned : aligned 0x08#8 = true := by decide
  simp [encode, decode, haligned, decodeWrite]

/-- A read of a register decodes alike for every WDATA (R50, R70). -/
theorem decode_read (r : RegName) (w : Word) : decode (0#1 ++ offset r ++ w) = .ok (instrRd r) := by
  obtain ⟨hwe, hoff, _⟩ := accFields 0#1 (offset r) w
  simp [decode, hwe, hoff, decodeRead, readRow_offset]

theorem decode_encode_instrRd (r : RegName) : decode (encode (instrRd r)) = .ok (instrRd r) := by
  rw [encode_instrRd]
  exact decode_read r 0#32

theorem decode_encode (i : Instr) : decode (encode i) = .ok i := by
  cases i using instr_cases_form with
  | formatN op => exact decode_encode_instrN op
  | formatB op d => exact decode_encode_instrB op d
  | txStart id len => exact decode_encode_txStart id len
  | wrData v => exact decode_encode_wrData v
  | wrConfig v => exact decode_encode_wrConfig v
  | rd r => exact decode_encode_instrRd r

/-- Settles O1, one form of operation at a time. -/
theorem decodeOfEncodeIsTheOperation : Obligations.DecodeOfEncodeIsTheOperation := fun i _ => decode_encode i

/-! ## Encoding what is decoded -/

/-- The command word of a format that carries OP and the operands of `w`, and 0 in its reserved bits (R71). -/
def commandWord (f : Format) (w : Word) : Word :=
  match f with
  | .N => wordN (cmdOp w)
  | .B => wordB (cmdD w) (cmdOp w)
  | .H => wordH (cmdLen w) (cmdId w) (cmdOp w)

/-- A command word without operands is its reserved bits over its OP. -/
theorem cmd_eta_op (w : Word) : w = (w.extractLsb' 8 24 ++ cmdOp w : BitVec 32) := by
  apply BitVec.eq_of_getLsbD_eq
  intro i hi
  change w.getLsbD i = (w.extractLsb' 8 24 ++ cmdOp w).getLsbD i
  rw [BitVec.getLsbD_append]
  by_cases h8 : i < 8
  · simp [h8, cmdOp]
  · have hlow : 8 + (i - 8) = i := by omega
    have hhigh : i - 8 < 24 := by omega
    simp [h8, hhigh, hlow]

/-- A word whose reserved bits are clear is the command word of its fields (R71). -/
theorem commandWord_eq {f : Format} {w : Word} (h : reservedClear f w = true) : commandWord f w = w := by
  cases f with
  | N =>
    have hreserved : w.extractLsb' 8 24 = 0#24 := eq_of_beq h
    conv_rhs => rw [cmd_eta_op w, hreserved]
    rfl
  | B =>
    have hreserved : cmdLen w = 0#16 := eq_of_beq h
    conv_rhs => rw [cmd_eta w, hreserved]
    rfl
  | H => exact (cmd_eta w).symm

/-- An octet with the value of a numeral is that numeral. -/
theorem octet_eq_ofNat {o : Octet} {n : Nat} (h : o.toNat = n) : o = BitVec.ofNat 8 n := by
  rw [← h, BitVec.ofNat_toNat, BitVec.setWidth_eq]

/-- A row of the opcode map names an operation that is encoded in the row's format (R73). -/
theorem encode_of_cmdRow {w : Word} {f : Format} {mk : Word → Instr} (h : cmdRow (cmdOp w) = some (f, mk)) :
    encode (mk w) = accCmd (commandWord f w) := by
  unfold commandWord
  unfold cmdRow at h
  split at h <;> cases h <;> (rw [octet_eq_ofNat ‹(cmdOp w).toNat = _›]; rfl)

theorem encode_of_decodeCmd {w : Word} {i : Instr} (h : decodeCmd w = .ok i) : encode i = accCmd w := by
  obtain ⟨f, mk, hrow, hreserved, rfl⟩ := decodeCmd_ok_inv w i h
  rw [encode_of_cmdRow hrow, commandWord_eq hreserved]

theorem encode_of_decodeWrite {off : Octet} {w : Word} {i : Instr} (h : decodeWrite off w = .ok i) :
    encode i = accWrite off w := by
  unfold decodeWrite at h
  split at h
  · rw [octet_eq_ofNat ‹off.toNat = _›]
    exact encode_of_decodeCmd h
  · rw [octet_eq_ofNat ‹off.toNat = _›]
    cases h; rfl
  · rw [octet_eq_ofNat ‹off.toNat = _›]
    cases h; rfl
  · cases h

theorem encode_of_readRow {off : Octet} {i : Instr} (h : readRow off = some i) : encode i = accRead off := by
  unfold readRow at h
  split at h <;> cases h <;> (rw [octet_eq_ofNat ‹off.toNat = _›]; rfl)

/-- Masking two parts at once. -/
theorem append_and_append_eq_iff {m n : Nat} (x p x' : BitVec m) (y q y' : BitVec n) :
    (x ++ y) &&& (p ++ q) = x' ++ y' ↔ x &&& p = x' ∧ y &&& q = y' := by
  rw [BitVec.and_append, append_eq_append_iff]

theorem octet_and_ones (o : Octet) : o &&& 0xFF#8 = o := BitVec.and_allOnes

/-- A mask that keeps WE and OFF whole leaves a condition on WDATA alone. -/
theorem and_accMask_eq_iff (a : AccessWord) (we : BitVec 1) (off : Octet) (m v : Word) :
    a &&& (1#1 ++ 0xFF#8 ++ m) = we ++ off ++ v ↔ ∃ w, a = we ++ off ++ w ∧ w &&& m = v := by
  have hwe (b : BitVec 1) : b &&& 1#1 = b := BitVec.and_allOnes
  constructor
  · intro h
    rw [acc_eta a, append_and_append_eq_iff, append_and_append_eq_iff, hwe, octet_and_ones] at h
    obtain ⟨⟨rfl, rfl⟩, hdata⟩ := h
    exact ⟨accData a, acc_eta a, hdata⟩
  · rintro ⟨w, rfl, rfl⟩
    rw [append_and_append_eq_iff, append_and_append_eq_iff]
    exact ⟨⟨hwe we, octet_and_ones off⟩, rfl⟩

/-- An accepted write is the encoding of its operation, bit for bit (R70, R71). -/
theorem encode_of_decode_write {a : AccessWord} {i : Instr} (h : decode a = .ok i) (hwrite : accWE a = true) :
    encode i = a := by
  obtain ⟨_, ⟨_, hdecoded⟩ | ⟨hread, _⟩⟩ := decode_ok_inv a i h
  · rw [encode_of_decodeWrite hdecoded]
    conv_rhs => rw [acc_eta a, hwrite]
    rfl
  · rw [hread] at hwrite; cases hwrite

/-- An accepted read is the encoding of its operation up to WDATA (R70). -/
theorem encode_of_decode_read {a : AccessWord} {i : Instr} (h : decode a = .ok i) (hread : accWE a = false) :
    encode i = a &&& 0x1FF00000000#41 := by
  obtain ⟨_, ⟨hwrite, _⟩ | ⟨_, hrow⟩⟩ := decode_ok_inv a i h
  · rw [hread] at hwrite; cases hwrite
  · rw [encode_of_readRow hrow]
    have ha := acc_eta a
    rw [hread] at ha
    exact ((and_accMask_eq_iff a 0#1 (accOff a) 0#32 0#32).mpr ⟨accData a, ha, BitVec.and_zero⟩).symm

/-- Settles O2: a write by the format of its row, a read by its offset. -/
theorem encodeOfDecodeIsTheWord : Obligations.EncodeOfDecodeIsTheWord := by
  intro a i h
  rw [isWrite_eq]
  exact ⟨encode_of_decode_write h, encode_of_decode_read h⟩

/-! ## The opcode table -/

theorem tableRow_instrN (op : OpN) :
    tableRow (instrN op) = (1#1 ++ 0xFF#8 ++ 0xFFFFFFFF#32, accCmd (wordN (opcodeN op))) := by
  cases op <;> rfl

theorem tableRow_instrB (op : OpB) (d : Octet) :
    tableRow (instrB op d) = (1#1 ++ 0xFF#8 ++ 0xFFFF00FF#32, accCmd (wordB 0#8 (opcodeB op))) := by
  cases op <;> rfl

theorem tableRow_instrRd (r : RegName) :
    tableRow (instrRd r) = (1#1 ++ 0xFF#8 ++ 0#32, accRead (offset r)) := by
  cases r <;> rfl

/-- The words of a format-B row hold any D and 0 above it (R73). -/
theorem and_maskB_eq_iff (w : Word) (op : Octet) : w &&& 0xFFFF00FF#32 = wordB 0#8 op ↔ ∃ d, w = wordB d op := by
  have hparts (hi : Half) (d op' : Octet) :
      (hi ++ d ++ op') &&& (0xFFFF#16 ++ 0x00#8 ++ 0xFF#8) = 0#16 ++ 0#8 ++ op ↔ hi = 0#16 ∧ op' = op := by
    have hhi : hi &&& 0xFFFF#16 = hi := BitVec.and_allOnes
    rw [append_and_append_eq_iff, append_and_append_eq_iff, hhi, octet_and_ones, BitVec.and_zero, eq_self, and_true]
  constructor
  · intro h
    rw [cmd_eta w] at h
    obtain ⟨hlen, hop⟩ := (hparts _ _ _).mp h
    exact ⟨cmdD w, by rw [wordB, ← hlen, ← hop]; exact cmd_eta w⟩
  · rintro ⟨d, rfl⟩
    exact (hparts 0#16 d op).mpr ⟨rfl, rfl⟩

/-- The words of the format-H row hold any LEN and ID (R73). -/
theorem and_maskH_eq_iff (w : Word) (op : Octet) :
    w &&& 0x000000FF#32 = wordH 0#16 0#8 op ↔ ∃ id len, w = wordH len id op := by
  have hparts (len : Half) (id op' : Octet) :
      (len ++ id ++ op') &&& (0x0000#16 ++ 0x00#8 ++ 0xFF#8) = 0#16 ++ 0#8 ++ op ↔ op' = op := by
    rw [append_and_append_eq_iff, append_and_append_eq_iff, BitVec.and_zero, BitVec.and_zero, octet_and_ones,
      eq_self, eq_self, and_self, true_and]
  constructor
  · intro h
    rw [cmd_eta w] at h
    have hop := (hparts _ _ _).mp h
    exact ⟨cmdD w, cmdLen w, by rw [wordH, ← hop]; exact cmd_eta w⟩
  · rintro ⟨id, len, rfl⟩
    exact (hparts len id op).mpr rfl

/-! The words of a row are the encodings of its operations; those of a read hold any WDATA too. -/

theorem matchesRow_instrN (a : AccessWord) (op : OpN) : matchesRow a (instrN op) ↔ a = encode (instrN op) := by
  rw [matchesRow, tableRow_instrN, encode_instrN]
  exact iff_of_eq (congrArg (· = _) BitVec.and_allOnes)

theorem matchesRow_instrB (a : AccessWord) (op : OpB) (d : Octet) :
    matchesRow a (instrB op d) ↔ ∃ d', a = encode (instrB op d') := by
  rw [matchesRow, tableRow_instrB, accCmd, accWrite, and_accMask_eq_iff]
  simp only [and_maskB_eq_iff, encode_instrB]
  constructor
  · rintro ⟨_, rfl, d', rfl⟩; exact ⟨d', rfl⟩
  · rintro ⟨d', rfl⟩; exact ⟨_, rfl, d', rfl⟩

theorem matchesRow_txStart (a : AccessWord) (id : Octet) (len : Half) :
    matchesRow a (.txStart id len) ↔ ∃ id' len', a = encode (.txStart id' len') := by
  have hrow : matchesRow a (.txStart id len) ↔ _ :=
    and_accMask_eq_iff a 1#1 0x00#8 0x000000FF#32 (wordH 0#16 0#8 0x30#8)
  rw [hrow]
  simp only [and_maskH_eq_iff]
  constructor
  · rintro ⟨_, rfl, id', len', rfl⟩; exact ⟨id', len', rfl⟩
  · rintro ⟨id', len', rfl⟩; exact ⟨_, rfl, id', len', rfl⟩

/-- A row that fixes WE and OFF alone holds every WDATA (R73). -/
theorem and_registerMask_eq_iff (a : AccessWord) (we : BitVec 1) (off : Octet) :
    a &&& 0x1FF00000000#41 = we ++ off ++ 0#32 ↔ ∃ w : Word, a = we ++ off ++ w := by
  have hrow := and_accMask_eq_iff a we off 0#32 0#32
  simp only [BitVec.and_zero, and_true] at hrow
  exact hrow

theorem matchesRow_wrData (a : AccessWord) (v : Word) :
    matchesRow a (.wrData v) ↔ ∃ v', a = encode (.wrData v') := and_registerMask_eq_iff a 1#1 0x04#8

theorem matchesRow_wrConfig (a : AccessWord) (v : Word) :
    matchesRow a (.wrConfig v) ↔ ∃ v', a = encode (.wrConfig v') := and_registerMask_eq_iff a 1#1 0x08#8

theorem matchesRow_instrRd (a : AccessWord) (r : RegName) :
    matchesRow a (instrRd r) ↔ ∃ w : Word, a = 0#1 ++ offset r ++ w := by
  rw [matchesRow, tableRow_instrRd]
  exact and_registerMask_eq_iff a 0#1 (offset r)

theorem matchesRow_encode (i : Instr) : matchesRow (encode i) i := by
  cases i using instr_cases_form with
  | formatN op => exact (matchesRow_instrN _ op).mpr rfl
  | formatB op d => exact (matchesRow_instrB _ op d).mpr ⟨d, rfl⟩
  | txStart id len => exact Laws.EncodesToRow.txStart id len
  | wrData v => exact Laws.EncodesToRow.wrData v
  | wrConfig v => exact Laws.EncodesToRow.wrConfig v
  | rd r => exact (matchesRow_instrRd _ r).mpr ⟨0#32, encode_instrRd r⟩

/-- An operation encoded as a read is the read of a register (R70). -/
theorem exists_instrRd_of_read {i : Instr} (h : accWE (encode i) = false) : ∃ r, i = instrRd r := by
  cases i using instr_cases_form with
  | formatN op => simp [encode_instrN, accCmd] at h
  | formatB op d => simp [encode_instrB, accCmd] at h
  | txStart | wrData | wrConfig => simp [encode, accCmd] at h
  | rd r => exact ⟨r, rfl⟩

/-- An accepted word is its operation's encoding, up to the WDATA that the mask of a read's row leaves out. -/
theorem matchesRow_of_decode {a : AccessWord} {i : Instr} (h : decode a = .ok i) : matchesRow a i := by
  cases hwe : accWE a with
  | true => exact encode_of_decode_write h hwe ▸ matchesRow_encode i
  | false =>
    obtain ⟨r, rfl⟩ := exists_instrRd_of_read ((accWE_encode_of_decode h).trans hwe)
    have hword := encode_of_decode_read h hwe
    rw [encode_instrRd] at hword
    rw [matchesRow, tableRow_instrRd]
    exact hword.symm

/-- A word of a row decodes to an operation of that row. -/
theorem decode_of_matchesRow {a : AccessWord} {i : Instr} (h : matchesRow a i) :
    ∃ j, decode a = .ok j ∧ tableRow j = tableRow i := by
  cases i using instr_cases_form with
  | formatN op =>
    obtain rfl := (matchesRow_instrN a op).mp h
    exact ⟨_, decode_encode _, rfl⟩
  | formatB op d =>
    obtain ⟨d', rfl⟩ := (matchesRow_instrB a op d).mp h
    exact ⟨_, decode_encode _, by rw [tableRow_instrB, tableRow_instrB]⟩
  | txStart id len =>
    obtain ⟨id', len', rfl⟩ := (matchesRow_txStart a id len).mp h
    exact ⟨_, decode_encode _, rfl⟩
  | wrData v =>
    obtain ⟨v', rfl⟩ := (matchesRow_wrData a v).mp h
    exact ⟨_, decode_encode _, rfl⟩
  | wrConfig v =>
    obtain ⟨v', rfl⟩ := (matchesRow_wrConfig a v).mp h
    exact ⟨_, decode_encode _, rfl⟩
  | rd r =>
    obtain ⟨w, rfl⟩ := (matchesRow_instrRd a r).mp h
    exact ⟨_, decode_read r w, rfl⟩

/-- Settles O3: two rows that share a word share what the word decodes to. -/
theorem decoderFollowsOpcodeTable : Obligations.DecoderFollowsOpcodeTable := by
  refine ⟨fun _ _ => matchesRow_of_decode, fun _ _ => decode_of_matchesRow, ?_⟩
  intro a i j hi hj
  obtain ⟨i', hdecode, hrow⟩ := decode_of_matchesRow hi
  obtain ⟨j', hdecode', hrow'⟩ := decode_of_matchesRow hj
  obtain rfl : i' = j' := Except.ok.inj (hdecode.symm.trans hdecode')
  exact hrow.symm.trans hrow'

/-! ## The assembler -/

theorem assemble_of_wf (st : Stmt) (h : st.wf = true) : assemble st = some ((expand st).map encode) := if_pos h

theorem assemble_of_not_wf {st : Stmt} (h : st.wf = false) : assemble st = none := by
  rw [assemble, h]
  rfl

@[simp] theorem octetOk_toNat (d : Octet) : octetOk d.toNat = true := decide_eq_true d.isLt

@[simp] theorem halfOk_toNat (n : Half) : halfOk n.toNat = true := decide_eq_true n.isLt

@[simp] theorem wordOk_toNat (v : Word) : wordOk v.toNat = true := decide_eq_true v.isLt

theorem octetOk_eq_false {o : Nat} (h : 256 ≤ o) : octetOk o = false := decide_eq_false h.not_gt

theorem halfOk_eq_false {n : Nat} (h : 65536 ≤ n) : halfOk n = false := decide_eq_false h.not_gt

theorem wordOk_eq_false {v : Nat} (h : 2 ^ 32 ≤ v) : wordOk v = false := decide_eq_false h.not_gt

theorem assemble_opB (op : OpB) (d : Octet) : assemble (.opB op d.toNat) = some [encode (instrB op d)] := by
  rw [assemble_of_wf (.opB op d.toNat) (octetOk_toNat d)]
  simp [expand]

theorem assemble_txStart (id : Octet) (len : Half) :
    assemble (.txStart id.toNat len.toNat) = some [encode (.txStart id len)] := by
  have hwf : Stmt.wf (.txStart id.toNat len.toNat) = true := by simp [Stmt.wf]
  rw [assemble_of_wf _ hwf]
  simp [expand]

theorem assemble_txStart_out_of_range {id len : Nat} (h : 256 ≤ id ∨ 65536 ≤ len) :
    assemble (.txStart id len) = none := by
  apply assemble_of_not_wf
  rcases h with hid | hlen
  · simp [Stmt.wf, octetOk_eq_false hid]
  · simp [Stmt.wf, halfOk_eq_false hlen]

theorem assemble_wrData (v : Word) : assemble (.wrData v.toNat) = some [encode (.wrData v)] := by
  rw [assemble_of_wf (.wrData v.toNat) (wordOk_toNat v)]
  simp [expand]

theorem assemble_wrConfig (v : Word) : assemble (.wrConfig v.toNat) = some [encode (.wrConfig v)] := by
  rw [assemble_of_wf (.wrConfig v.toNat) (wordOk_toNat v)]
  simp [expand]

/-- Settles O5: the assembler's range checks are those under which each operand survives its width. -/
theorem assemblerTruncatesNoOperand : Obligations.AssemblerTruncatesNoOperand :=
  ⟨fun _ _ h => assemble_of_not_wf (octetOk_eq_false h), assemble_opB, fun _ _ => assemble_txStart_out_of_range,
    assemble_txStart,
    fun _ h => ⟨assemble_of_not_wf (wordOk_eq_false h), assemble_of_not_wf (wordOk_eq_false h)⟩,
    fun v => ⟨assemble_wrData v, assemble_wrConfig v⟩⟩

/-- A write that the decoder rejects raises its error and does nothing else (R232). -/
theorem step_present_of_decode_error {a : AccessWord} {r : Reject} (h : decode a = .error r) (hwrite : accWE a = true)
    (s : State) : step (s.present a) = .next (s.raise (rejectCode r)) := by
  rw [step_present]
  simp [perform, h, State.reject, hwrite]

/-- Settles O4: each legal word is an operation's encoding, and the illegal one has reserved bit 16 set. -/
theorem encodingExamplesOfR79 : Obligations.EncodingExamplesOfR79 :=
  ⟨rfl, decode_encode .nop,
    assemble_opB .crc16Feed 0x31#8, decode_encode (.crc16Feed 0x31#8),
    assemble_opB .rxPush 0x02#8, decode_encode (.rxPush 0x02#8),
    assemble_txStart 0x30#8 0#16, decode_encode (.txStart 0x30#8 0#16),
    assemble_txStart 0x21#8 4#16, decode_encode (.txStart 0x21#8 4#16),
    assemble_wrData 0x34333231#32, decode_encode (.wrData 0x34333231#32),
    assemble_wrConfig 0xFFFF0010#32, decode_encode (.wrConfig 0xFFFF0010#32),
    rfl, decode_read .status,
    rfl, decode_encode .sreset,
    decode_encode (.crc16Feed 0x01#8),
    step_present_of_decode_error (r := .reservedBits) (by decide) (by decide)⟩

end Sys2Proof.Machine
end

section
/-! The family of 40_crc16: what the CRC-16 commands do and which of their words are legal (R102..R104), FEED4 against
single FEEDs (R104, R124), the table form (R105), and splitting and the residue (R106). -/

namespace Sys2Proof.Machine

open Sys2Proof.Safety

/-! ## FEED4 and the single FEEDs -/

/-- FEED4 and the engine's FEED on the octets of DATA, low octet first, end in one state (R104, R124). -/
theorem FeedsOctets.feed4_agrees_feeds {feed4 : Instr} {feed : Octet → Instr} {fed : List Octet → State → State}
    (h : FeedsOctets feed4 feed fed) (s : State) :
    ∃ t, Performs s [feed4] t ∧ Performs s ((octets s.data).map feed) t :=
  ⟨fed (octets s.data) s, performs_cons_exec h.decode_feed4 (h.exec_feed4 s) (performs_nil _),
    h.performs_map (octets s.data) s⟩

/-- Settles O25: each engine feeds a list of octets, at once or one by one. -/
theorem feed4EqualsFourFeeds : Obligations.Feed4EqualsFourFeeds := fun s =>
  ⟨crc16_feedsOctets.feed4_agrees_feeds s, crc32_feedsOctets.feed4_agrees_feeds s⟩

/-! ## The table form of the CRC-16 -/

/-- A table entry is the bit loop run on an octet in the high half (R105). -/
theorem t16_eq (n : Octet) : t16 n = Nat.repeat bit16 8 (n.setWidth 16 <<< 8) := by
  rw [t16, step16, BitVec.zero_xor]

/-- Shifting up by an octet drops the high octet. -/
theorem low_shiftLeft_octet (c : Half) : (c.extractLsb' 0 8).setWidth 16 <<< 8 = c <<< 8 := by
  ext i hi
  have hlow : i - 8 < 8 := by omega
  have hhalf : i - 8 < 16 := by omega
  simp [hlow, hhalf, ← BitVec.getLsbD_eq_getElem]

/-- The table form (R105): the bit loop divides the high octet and shifts the low one up. -/
theorem step16_eq_table (c : Half) (o : Octet) : step16 c o = (c <<< 8) ^^^ t16 (c.extractLsb' 8 8 ^^^ o) := by
  calc step16 c o
    _ = Nat.repeat bit16 8
          (((c.extractLsb' 8 8 ^^^ o).setWidth 16 <<< 8) ^^^ (c.extractLsb' 0 8).setWidth 16) := by
        rw [step16, feed16_split]
    _ = t16 (c.extractLsb' 8 8 ^^^ o) ^^^ (c <<< 8) := by
        rw [repeat_bit16_xor, repeat_bit16_low, low_shiftLeft_octet, t16_eq]
    _ = (c <<< 8) ^^^ t16 (c.extractLsb' 8 8 ^^^ o) := BitVec.xor_comm _ _

@[simp] theorem t16_zero : t16 0x00#8 = 0x0000#16 := by decide

/-- Settles O26: the law for every register and octet, and the five entries listed. -/
theorem crc16TableFormAgrees : Obligations.Crc16TableFormAgrees :=
  ⟨step16_eq_table, by decide⟩

/-! ## Splitting and the residue -/

/-- The CRC of a concatenation continues from the CRC of its first part (R106). -/
theorem crc16From_append (a b : List Octet) (seed : Half) :
    crc16From seed (a ++ b) = crc16From (crc16From seed a) b :=
  List.foldl_append

/-- Feeding a register its own high octet only shifts it: the table index cancels. -/
theorem step16_high (c : Half) : step16 c (c.extractLsb' 8 8) = c <<< 8 := by
  rw [step16_eq_table, BitVec.xor_self, t16_zero, BitVec.xor_zero]

/-- What was the low octet before a shift is the high octet after it. -/
theorem extract_high_shiftLeft_octet (c : Half) : (c <<< 8).extractLsb' 8 8 = c.extractLsb' 0 8 := by
  ext i hi
  have hhalf : 8 + i < 16 := by omega
  simp [hhalf, ← BitVec.getLsbD_eq_getElem]

/-- A register fed with its own two octets, high octet first, becomes 0 (R106). -/
theorem step16_high_low (c : Half) : step16 (step16 c (c.extractLsb' 8 8)) (c.extractLsb' 0 8) = 0x0000#16 := by
  rw [step16_high, ← extract_high_shiftLeft_octet, step16_high, ← BitVec.shiftLeft_add]
  exact BitVec.shiftLeft_eq_zero (by decide)

/-- Settles O27: appending the CRC high octet first feeds the register its own octets. -/
theorem crc16SplitsAndLeavesItsResidue : Obligations.Crc16SplitsAndLeavesItsResidue := by
  refine ⟨crc16From_append, fun a => ?_, by decide +kernel, by decide +kernel⟩
  rw [crc16Of, crc16From_append]
  exact step16_high_low (crc16Of a)

/-! ## Command words -/

/-- The command word of a format-N operation performs it (R73). -/
theorem commandRuns_instrN (op : OpN) : CommandRuns (wordN (opcodeN op)) (instrN op) := fun s => by
  rw [step_present, ← encode_instrN, perform_of_decode_ok (decode_encode_instrN op)]

/-- The command word of a format-B operation performs it (R73). -/
theorem commandRuns_instrB (op : OpB) (d : Octet) : CommandRuns (wordB d (opcodeB op)) (instrB op d) := fun s => by
  rw [step_present, ← encode_instrB, perform_of_decode_ok (decode_encode_instrB op d)]

/-- A command word of a known OP raises ILLEGAL_CMD when the reserved bits of its format are not all 0 (R75). -/
theorem reservedBitsRaise_of_cmdRow {op : Octet} {f : Format} {mk : Word → Instr} {low : Nat}
    (hrow : cmdRow op = some (f, mk)) (hclear : ∀ w, reservedClear f w = (w.toNat / 2 ^ low == 0)) :
    ReservedBitsRaise op low := by
  intro s w hop hbits
  have hreserved : reservedClear f w = false := by rw [hclear, beq_eq_false_iff_ne]; exact hbits
  have hdecode : decode (accCmd w) = .error .reservedBits := by
    simp [decode_accCmd, decodeCmd, hop, hrow, hreserved]
  exact step_present_of_decode_error hdecode (accWE_accWrite _ _) s

theorem reservedBitsRaise_opcodeN (op : OpN) : ReservedBitsRaise (opcodeN op) 8 :=
  reservedBitsRaise_of_cmdRow (cmdRow_opcodeN op) fun w => extract_high_beq_zero w 8 24 rfl

theorem reservedBitsRaise_opcodeB (op : OpB) : ReservedBitsRaise (opcodeB op) 16 :=
  reservedBitsRaise_of_cmdRow (cmdRow_opcodeB op) fun w => extract_high_beq_zero w 16 16 rfl

/-! ## The CRC-16 commands -/

/-- CRC16.FEED4 on a word of four named octets (R104). -/
theorem exec_crc16Feed4_of_octets (s : State) (b0 b1 b2 b3 : Octet) (hdata : s.data = b3 ++ b2 ++ b1 ++ b0) :
    exec .crc16Feed4 s = .next { s with crc16 := step16 (step16 (step16 (step16 s.crc16 b0) b1) b2) b3 } := by
  have hoctets : octets s.data = [b0, b1, b2, b3] := hdata ▸ octets_pack b0 b1 b2 b3
  rw [crc16_feedsOctets.exec_feed4, hoctets]
  rfl

/-- Settles O23: each word is its command's encoding, and FEED4 goes through the octets of DATA. -/
theorem crc16CommandsUpdateTheAccumulator : Obligations.Crc16CommandsUpdateTheAccumulator := by
  refine ⟨⟨fun _ => rfl, commandRuns_instrN .crc16Init, reservedBitsRaise_opcodeN .crc16Init⟩,
    ⟨fun _ _ => rfl, commandRuns_instrB .crc16Feed, reservedBitsRaise_opcodeB .crc16Feed, by decide⟩,
    exec_crc16Feed4_of_octets, commandRuns_instrN .crc16Feed4, reservedBitsRaise_opcodeN .crc16Feed4, ?_⟩
  intro s hcrc hdata
  have hchain : step16 (step16 (step16 (step16 0xFFFF#16 0x31#8) 0x32#8) 0x33#8) 0x34#8 = 0x5349#16 := by
    decide +kernel
  rw [exec_crc16Feed4_of_octets s 0x31#8 0x32#8 0x33#8 0x34#8 hdata, hcrc, hchain]

end Sys2Proof.Machine
end

section
/-! The family of 41_crc32: the table form of the update against the bit loop (R120), splitting and the residue (R125),
and what the CRC-32 commands do and which of their words are legal (R122..R124). -/

namespace Sys2Proof.Machine

open Sys2Proof.Safety

/-! ## The table form of the CRC-32 -/

/-- The register with an octet added, split into the part that is divided and the part that shifts. -/
theorem feed32_split (c : Word) (o : Octet) :
    c ^^^ o.setWidth 32 = (c.extractLsb' 0 8 ^^^ o).setWidth 32 ^^^ (c >>> 8 <<< 8) := by
  apply BitVec.eq_of_getLsbD_eq
  intro i hi
  by_cases hlow : i < 8
  · simp [hlow, hi]
  · have hback : 8 + (i - 8) = i := by omega
    have hoctet : o.getLsbD i = false := BitVec.getLsbD_of_ge o i (by omega)
    simp [hlow, hi, hback, hoctet]

/-- A register whose low octet is 0 only shifts down. -/
theorem repeat_bit32_shiftLeft_octet (c : Word) : Nat.repeat bit32 8 (c >>> 8 <<< 8) = c >>> 8 := by
  rw [repeat_bit32_high _ 8 fun k hk => by simp [hk]]
  ext i hi
  simpa using BitVec.lt_of_getLsbD

/-- The bit loop divides the low octet, through the table, and shifts the others down (R120). -/
theorem step32_eq_bitLoop (c : Word) (o : Octet) : step32 c o = Nat.repeat bit32 8 (c ^^^ o.setWidth 32) := by
  rw [feed32_split, repeat_bit32_xor, repeat_bit32_shiftLeft_octet]
  rfl

/-- Settles O28: the low octet indexes the table, and the octets above it only shift. -/
theorem crc32TableFormEqualsBitLoop : Obligations.Crc32TableFormEqualsBitLoop := step32_eq_bitLoop

/-! ## Splitting and the residue -/

/-- The raw register of a concatenation continues from that of its first part (R125). -/
theorem raw32Of_append (a b : List Octet) : raw32Of (a ++ b) = raw32From (raw32Of a) b := List.foldl_append

/-- An octet of a finished value is the complement of the register's. -/
theorem extract_finish32 (c : Word) (n : Nat) (h : n + 8 ≤ 32) :
    (finish32 c).extractLsb' n 8 = ~~~ ((c >>> n).extractLsb' 0 8) := by
  have hcomplement : finish32 c = ~~~ c := BitVec.xor_allOnes
  apply BitVec.eq_of_getLsbD_eq
  intro i hi
  have hword : n + i < 32 := by omega
  simp [hcomplement, hi, hword]

/-- Fed the finished octet at `n`, a register that still holds `c` from bit `n` up takes in 0xFF and holds `c` from the
next octet up. -/
theorem step32_finish32 (r c : Word) (n : Nat) (h : n + 8 ≤ 32) :
    step32 (r ^^^ c >>> n) ((finish32 c).extractLsb' n 8) = step32 r 0xFF#8 ^^^ c >>> (n + 8) := by
  rw [extract_finish32 c n h, step32_complement, BitVec.shiftRight_add]

/-- A register fed with its own finished value, low octet first, becomes the residue (R125): nothing of it is left. -/
theorem raw32From_octets_finish32 (c : Word) : raw32From c (octets (finish32 c)) = 0xDEBB20E3#32 := by
  have hstart : c = 0#32 ^^^ c >>> 0 := by simp
  have hempty : c >>> 32 = 0#32 := BitVec.ushiftRight_eq_zero (by decide)
  calc raw32From c (octets (finish32 c))
    _ = raw32From (0#32 ^^^ c >>> 0) (octets (finish32 c)) := by rw [← hstart]
    _ = raw32From 0#32 [0xFF#8, 0xFF#8, 0xFF#8, 0xFF#8] ^^^ c >>> 32 := by
        simp only [raw32From, octets, List.foldl_cons, List.foldl_nil, step32_finish32, Nat.reduceAdd, Nat.reduceLeDiff]
    _ = 0xDEBB20E3#32 := by rw [hempty]; decide +kernel

/-- Settles O29: the four octets appended are those of the first part's finished value. -/
theorem crc32SplitsAndLeavesItsResidue : Obligations.Crc32SplitsAndLeavesItsResidue := by
  refine ⟨raw32Of_append, fun a => ?_⟩
  have hresidue : raw32Of (a ++ octets (crc32Of a)) = 0xDEBB20E3#32 :=
    (raw32Of_append a _).trans (raw32From_octets_finish32 (raw32Of a))
  exact ⟨hresidue, congrArg finish32 hresidue⟩

/-! ## The CRC-32 commands -/

/-- CRC32.FEED4 on a word of four named octets (R124). -/
theorem exec_crc32Feed4_of_octets (s : State) (b0 b1 b2 b3 : Octet) (hdata : s.data = b3 ++ b2 ++ b1 ++ b0) :
    exec .crc32Feed4 s = .next { s with crc32 := step32 (step32 (step32 (step32 s.crc32 b0) b1) b2) b3 } := by
  have hoctets : octets s.data = [b0, b1, b2, b3] := hdata ▸ octets_pack b0 b1 b2 b3
  rw [crc32_feedsOctets.exec_feed4, hoctets]
  rfl

/-- CRC32.FEED4 where the accumulator and DATA are known (R124). -/
theorem exec_crc32Feed4_of_values (s : State) {c w : Word} (hcrc : s.crc32 = c) (hdata : s.data = w) :
    exec .crc32Feed4 s = .next { s with crc32 := raw32From c (octets w) } := by
  rw [crc32_feedsOctets.exec_feed4, hcrc, hdata]

/-- RD CRC32_RESULT returns the accumulator's finished value (R201). -/
theorem image_crc32Result_with_crc32 (s : State) (c : Word) :
    image { s with crc32 := c } .crc32Result = finish32 c := rfl

/-- The octets of "1234" from the seed (R124). -/
theorem raw32From_seed_1234 : raw32From 0xFFFFFFFF#32 (octets 0x34333231#32) = 0x641C1F5C#32 := by decide +kernel

/-- Settles O24: each word is its command's encoding, and FEED4 goes through the octets of DATA; fed with 0 from the
seed, the accumulator takes in its own finished value. -/
theorem crc32CommandsUpdateTheAccumulator : Obligations.Crc32CommandsUpdateTheAccumulator := by
  refine ⟨⟨fun _ => rfl, commandRuns_instrN .crc32Init, reservedBitsRaise_opcodeN .crc32Init, ?_⟩,
    ⟨fun _ _ => rfl, commandRuns_instrB .crc32Feed, reservedBitsRaise_opcodeB .crc32Feed, by decide⟩,
    exec_crc32Feed4_of_octets, commandRuns_instrN .crc32Feed4, reservedBitsRaise_opcodeN .crc32Feed4, ?_, ?_⟩
  · rintro s _ ⟨rfl⟩
    exact (image_crc32Result_with_crc32 s _).trans (by decide)
  · intro s hcrc hdata
    rw [exec_crc32Feed4_of_values s hcrc hdata, raw32From_seed_1234]
    exact ⟨rfl, (image_crc32Result_with_crc32 s _).trans (by decide)⟩
  · intro s hcrc hdata
    have hzero : (0#32 : Word) = finish32 0xFFFFFFFF#32 := rfl
    rw [exec_crc32Feed4_of_values s hcrc hdata, hzero, raw32From_octets_finish32]
    exact ⟨rfl, (image_crc32Result_with_crc32 s _).trans (by decide)⟩

end Sys2Proof.Machine
end

section
/-! The family of 42_framer_rx: what RX.RESET and RX.PUSH do in each RX_ST (R140..R150), the transition table (R151),
and the invariants of R39, which every step keeps. -/

namespace Sys2Proof.Machine

open Sys2Proof.Safety

/-! ## RX.RESET -/

/-- Settles O31. -/
theorem rxResetRearmsTheReceiver : Obligations.RxResetRearmsTheReceiver := by
  refine ⟨fun s => ?_, commandRuns_instrN .rxReset, reservedBitsRaise_opcodeN .rxReset⟩
  have hskip : s.cfgSkip = 0#8 ↔ ¬ 0 < s.cfgSkip.toNat := by bv_omega
  simp only [exec_rxReset, rxRearmed, hskip, ite_not, Config.crc16Seed]

/-! ## One push -/

@[simp] theorem rxTake_rxPos (d : Octet) (s : State) : (rxTake d s).rxPos = s.rxPos + 1#32 := by
  rw [rxTake, rxAction_frame]

@[simp] theorem rxTake_rxLast (d : Octet) (s : State) : (rxTake d s).rxLast = d := by rw [rxTake, rxAction_frame]

/-- A push changes only elements of the receive framer (R141). -/
theorem rxTake_frame (d : Octet) (s : State) :
    rxTake d s = { s with
      rxSt := (rxTake d s).rxSt, rxSkiprem := (rxTake d s).rxSkiprem, rxCmdid := (rxTake d s).rxCmdid
      rxLen := (rxTake d s).rxLen, rxPcount := (rxTake d s).rxPcount, rxCrcRecv := (rxTake d s).rxCrcRecv
      rxCrc := (rxTake d s).rxCrc, rxMatch := (rxTake d s).rxMatch, rxLenerr := (rxTake d s).rxLenerr
      rxClass := (rxTake d s).rxClass, rxLast := (rxTake d s).rxLast, rxPos := (rxTake d s).rxPos
      rxPstart := (rxTake d s).rxPstart } := by
  rw [rxTake_rxPos, rxTake_rxLast]
  exact rxAction_frame s.rxPos d { s with rxPos := s.rxPos + 1#32, rxLast := d }

theorem exec_rxPush (d : Octet) (s : State) : exec (.rxPush d) s = .next (rxTake d s) := rfl

/-- Settles O32. -/
theorem rxPushTakesOneOctet : Obligations.RxPushTakesOneOctet :=
  ⟨fun s d => ⟨rxTake d s, exec_rxPush d s, rxTake_rxPos d s, rxTake_rxLast d s, rxTake_frame d s⟩,
    commandRuns_instrB .rxPush, reservedBitsRaise_opcodeB .rxPush⟩

/-! ## A push in each RX_ST -/

/-- Settles O33. -/
theorem rxPushInSkipDiscards : Obligations.RxPushInSkipDiscards := by
  intro s d hst _
  have hlast : s.rxSkiprem - 1#8 = 0#8 ↔ s.rxSkiprem = 1#8 := by bv_omega
  simp only [exec_rxPush, rxTake_skip d s hst, rxInSkip, hlast, hst]

/-- Settles O34. -/
theorem rxPushInHuntSyncs : Obligations.RxPushInHuntSyncs := by
  intro s d hst
  rw [exec_rxPush, rxTake_hunt d s hst, rxInHunt]
  exact ⟨fun hsync => congrArg _ (if_pos hsync), fun hother => congrArg _ (if_neg hother)⟩

/-- Settles O35. -/
theorem rxPushInCmdTakesTheId : Obligations.RxPushInCmdTakesTheId := by
  intro s d hst
  rw [exec_rxPush, rxTake_cmd d s hst, rxInCmd]

/-- Settles O36. -/
theorem rxPushInLenLoTakesTheLowOctet : Obligations.RxPushInLenLoTakesTheLowOctet := by
  intro s d hst
  rw [exec_rxPush, rxTake_lenLo d s hst, rxInLenLo, setWidth_octet, half]

/-- Settles O37: the verdict on the length is the comparison with CFG_MAXLEN. -/
theorem rxPushInLenHiJudgesTheLength : Obligations.RxPushInLenHiJudgesTheLength := by
  intro s d lo hi hst hlen
  have hnew : half d (lo8 s.rxLen) = d ++ lo := by rw [hlen, lo8_append, half]
  have hzero : (d ++ lo : Half) = 0#16 ↔ (d ++ lo : Half).toNat = 0 := by bv_omega
  have htake := rxTake_lenHi d s hst
  simp only [rxInLenHi, hnew, hzero] at htake
  rw [exec_rxPush, htake]
  refine ⟨fun habove => ?_, fun hadmit => ?_⟩
  · rw [if_pos ((lengthRejected_iff _ _).mpr habove)]
  · rw [if_neg (mt (lengthRejected_iff _ _).mp hadmit.not_gt)]

/-- The payload octet that makes RX_PCOUNT reach RX_LEN, without wrapping (R147). -/
theorem count_succ_eq_iff {count len : Half} (h : count.toNat < len.toNat) :
    count + 1#16 = len ↔ count.toNat + 1 = len.toNat := by
  bv_omega

/-- Settles O38. -/
theorem rxPushInPayloadCounts : Obligations.RxPushInPayloadCounts := by
  intro s d hst hopen
  simp only [exec_rxPush, rxTake_payload d s hst, rxInPayload, count_succ_eq_iff hopen, hst]

/-- Settles O39. -/
theorem rxPushInCrcLoTakesTheLowOctet : Obligations.RxPushInCrcLoTakesTheLowOctet := by
  intro s d hst
  rw [exec_rxPush, rxTake_crcLo d s hst, rxInCrcLo, setWidth_octet, half]

/-- Settles O40. -/
theorem rxPushInCrcHiCompares : Obligations.RxPushInCrcHiCompares := by
  intro s d lo hi hst hrecv
  have hnew : half d (lo8 s.rxCrcRecv) = d ++ lo := by rw [hrecv, lo8_append, half]
  simp only [exec_rxPush, rxTake_crcHi d s hst, rxInCrcHi, hnew]
  rfl

/-- Settles O41. -/
theorem rxPushInDoneTrails : Obligations.RxPushInDoneTrails := by
  intro s d hst
  rw [exec_rxPush, rxTake_done d s hst, rxInDone]

/-! ## The transition table -/

/-- The length that LENHI completes is what the two octets say, low octet first (R146). -/
theorem toNat_half_lo8 (d : Octet) (n : Half) : (half d (lo8 n)).toNat = d.toNat * 256 + n.toNat % 256 := by
  have hlow : (lo8 n).toNat = n.toNat % 256 := by simp [lo8, BitVec.extractLsb'_toNat]
  have happend : (half d (lo8 n)).toNat = d.toNat * 256 + (lo8 n).toNat := by
    rw [half, BitVec.toNat_append, ← Nat.shiftLeft_add_eq_or_of_lt (lo8 n).isLt, Nat.shiftLeft_eq]
  rw [happend, hlow]

theorem rxTake_lenHi_rxLen (d : Octet) (s : State) (hst : s.rxSt = .lenHi) :
    (rxTake d s).rxLen = half d (lo8 s.rxLen) := by
  rw [rxTake_lenHi d s hst, rxInLenHi_eq]

/-- A length above CFG_MAXLEN leads back to HUNT (R146). -/
theorem rxTake_lenHi_rejected (d : Octet) (s : State) (hst : s.rxSt = .lenHi)
    (habove : s.cfgMaxlen.toNat < (rxTake d s).rxLen.toNat) :
    (rxTake d s).rxSt = .hunt ∧ (rxTake d s).rxClass = .lenRej := by
  rw [rxTake_lenHi_rxLen d s hst, ← lengthRejected_iff] at habove
  simp [rxTake_lenHi d s hst, rxInLenHi, habove]

/-- A length that CFG_MAXLEN admits leads to the payload, or to the checksum when it is 0 (R146). -/
theorem rxTake_lenHi_accepted (d : Octet) (s : State) (hst : s.rxSt = .lenHi)
    (hadmit : (rxTake d s).rxLen.toNat ≤ s.cfgMaxlen.toNat) :
    (rxTake d s).rxSt = (if (rxTake d s).rxLen.toNat = 0 then .crcLo else .payload) ∧
      (rxTake d s).rxClass = .lenHi := by
  rw [rxTake_lenHi_rxLen d s hst] at hadmit ⊢
  have haccepted : lengthRejected (half d (lo8 s.rxLen)) s.cfgMaxlen = false := by
    rw [Bool.eq_false_iff, ne_eq, lengthRejected_iff]
    exact hadmit.not_gt
  have hzero : half d (lo8 s.rxLen) = 0#16 ↔ (half d (lo8 s.rxLen)).toNat = 0 := by bv_omega
  simp [rxTake_lenHi d s hst, rxInLenHi, haccepted, hzero]

/-- Settles O42, row by row. -/
theorem rxTransitionsFollowR151 : Obligations.RxTransitionsFollowR151 := by
  rintro s _ d ⟨rfl⟩
  refine ⟨fun hst hrem => ?skipLast, fun hst hrem => ?skipMore, fun hst hd => ?sync, fun hst hd => ?discard,
    fun hst => ?cmd, fun hst => ?lenLo, rxTake_lenHi_rejected d s, fun hst hadmit hzero => ?lenZero,
    fun hst hadmit hpos => ?lenPos, fun hst => ?length, fun hst hcount => ?payloadLast,
    fun hst hcount => ?payloadMore, fun hst => ?crcLo, fun hst => ?crcHi, fun hst => ?done⟩
  case skipLast =>
    have hlast : s.rxSkiprem - 1#8 = 0#8 := by bv_omega
    simp [rxTake_skip d s hst, rxInSkip, hlast]
  case skipMore =>
    have hmore : s.rxSkiprem - 1#8 ≠ 0#8 := by bv_omega
    simp [rxTake_skip d s hst, rxInSkip, hmore, hst]
  case sync =>
    obtain rfl : d = Config.sync := BitVec.eq_of_toNat_eq hd
    simp [rxTake_hunt _ s hst, rxInHunt]
  case discard =>
    have hother : d ≠ Config.sync := fun h => hd (congrArg BitVec.toNat h)
    simp [rxTake_hunt d s hst, rxInHunt, hother, hst]
  case cmd => simp [rxTake_cmd d s hst, rxInCmd]
  case lenLo => simp [rxTake_lenLo d s hst, rxInLenLo]
  case lenZero => simpa [hzero] using rxTake_lenHi_accepted d s hst hadmit
  case lenPos => simpa [hpos.ne'] using rxTake_lenHi_accepted d s hst hadmit
  case length => rw [rxTake_lenHi_rxLen d s hst, toNat_half_lo8]
  case payloadLast =>
    have hlast : s.rxPcount + 1#16 = s.rxLen := (count_succ_eq_iff (by omega)).mpr hcount
    simp [rxTake_payload d s hst, rxInPayload, hlast]
  case payloadMore =>
    have hmore : s.rxPcount + 1#16 ≠ s.rxLen := mt (count_succ_eq_iff (by omega)).mp hcount.ne
    simp [rxTake_payload d s hst, rxInPayload, hmore, hst]
  case crcLo => simp [rxTake_crcLo d s hst, rxInCrcLo]
  case crcHi => simp [rxTake_crcHi d s hst, rxInCrcHi]
  case done => simp [rxTake_done d s hst, rxInDone, hst]

/-! ## The invariants, part by part -/

/-- RXCRC covers the header and the RX_PCOUNT payload octets taken (R39). -/
def RxPayloadCovered (s : State) : Prop :=
  ∃ payload : List Octet, payload.length = s.rxPcount.toNat ∧
    s.rxCrc = crc16Of (s.rxCmdid :: lo8 s.rxLen :: hi8 s.rxLen :: payload)

/-- What the invariants say of the receive framer in each RX_ST. -/
def RxPhase (s : State) : Prop :=
  match s.rxSt with
  | .skip => s.rxSkiprem ≠ 0#8 ∧ s.rxCrc = Config.crc16Seed ∧ s.rxMatch = false
  | .hunt =>
    s.rxSkiprem = 0#8 ∧
    (s.rxCrc = Config.crc16Seed ∨ s.rxCrc = crc16Of [s.rxCmdid, lo8 s.rxLen, hi8 s.rxLen]) ∧ s.rxMatch = false
  | .cmd => s.rxSkiprem = 0#8 ∧ s.rxPcount = 0#16 ∧ s.rxCrc = Config.crc16Seed ∧ s.rxMatch = false
  | .lenLo => s.rxSkiprem = 0#8 ∧ s.rxPcount = 0#16 ∧ s.rxCrc = crc16Of [s.rxCmdid] ∧ s.rxMatch = false
  | .lenHi =>
    s.rxSkiprem = 0#8 ∧ s.rxPcount = 0#16 ∧ s.rxCrc = crc16Of [s.rxCmdid, lo8 s.rxLen] ∧ s.rxMatch = false
  | .payload =>
    s.rxSkiprem = 0#8 ∧ s.rxPcount.toNat < s.rxLen.toNat ∧ RxPayloadCovered s ∧
    s.rxPos = s.rxPstart + s.rxPcount.setWidth 32 ∧ s.rxMatch = false
  | .crcLo =>
    s.rxSkiprem = 0#8 ∧ s.rxPcount = s.rxLen ∧ RxPayloadCovered s ∧
    s.rxPos = s.rxPstart + s.rxPcount.setWidth 32 ∧ s.rxMatch = false
  | .crcHi =>
    s.rxSkiprem = 0#8 ∧ s.rxPcount = s.rxLen ∧ RxPayloadCovered s ∧
    s.rxPos = s.rxPstart + s.rxPcount.setWidth 32 + 1#32 ∧ s.rxMatch = false
  | .done =>
    s.rxSkiprem = 0#8 ∧ s.rxPcount = s.rxLen ∧ RxPayloadCovered s ∧
    (s.rxMatch = true ↔ s.rxCrcRecv = s.rxCrc)

/-- What the invariants say of the transmit framer. -/
def TxPhase (s : State) : Prop :=
  (s.txBusy = true ↔ 0 < s.txRem.toNat) ∧ (s.txBusy = true → TxFrameOpen s)

/-- What the invariants say of the error record. -/
def ErrRecorded (s : State) : Prop := s.err = true ↔ s.errcode ≠ .none

theorem rxPhase_iff (s : State) :
    RxPhase s ↔
      (s.rxSt = .skip ↔ 0 < s.rxSkiprem.toNat) ∧
      (s.rxSt = .cmd ∨ s.rxSt = .lenLo ∨ s.rxSt = .lenHi → s.rxPcount = 0#16) ∧
      (s.rxSt = .payload → s.rxPcount.toNat < s.rxLen.toNat) ∧
      (s.rxSt = .crcLo ∨ s.rxSt = .crcHi ∨ s.rxSt = .done → s.rxPcount = s.rxLen) ∧
      RxCrcCovers s ∧ RxPositioned s ∧ (s.rxMatch = true ↔ s.rxSt = .done ∧ s.rxCrcRecv = s.rxCrc) := by
  have hrem : 0 < s.rxSkiprem.toNat ↔ s.rxSkiprem ≠ 0#8 := by bv_omega
  rw [hrem]
  cases hst : s.rxSt <;> simp [RxPhase, RxPayloadCovered, RxCrcCovers, RxPositioned, hst]

/-- The invariants, as one condition on each framer and one on the error record. -/
theorem inv_iff (s : State) : Inv s ↔ RxPhase s ∧ TxPhase s ∧ ErrRecorded s := by
  rw [rxPhase_iff]
  constructor
  · rintro ⟨hbusy, hskip, hheader, hopen, hwhole, htx, hrx, hpos, hmatch, herr⟩
    exact ⟨⟨hskip, hheader, hopen, hwhole, hrx, hpos, hmatch⟩, ⟨hbusy, htx⟩, herr⟩
  · rintro ⟨⟨hskip, hheader, hopen, hwhole, hrx, hpos, hmatch⟩, ⟨hbusy, htx⟩, herr⟩
    exact ⟨hbusy, hskip, hheader, hopen, hwhole, htx, hrx, hpos, hmatch, herr⟩

/-! ## The receive framer keeps its invariants -/

theorem rxPhase_rxRearmed (s : State) : RxPhase (rxRearmed s) := by
  by_cases hskip : s.cfgSkip = 0#8 <;> simp [RxPhase, rxRearmed, hskip]

/-- One payload octet more is covered, if RX_PCOUNT does not wrap (R147). -/
theorem rxPayloadCovered_rxInPayload {s : State} (d : Octet) (hopen : s.rxPcount.toNat < s.rxLen.toNat)
    (h : RxPayloadCovered s) : RxPayloadCovered (rxInPayload d s) := by
  obtain ⟨payload, hlength, hcrc⟩ := h
  refine ⟨payload ++ [d], ?_, ?_⟩
  · have hcount : (s.rxPcount + 1#16).toNat = s.rxPcount.toNat + 1 := by bv_omega
    simp [rxInPayload, hcount, hlength]
  · change step16 s.rxCrc d = _
    rw [hcrc, ← crc16Of_snoc]
    rfl

/-- A count that does not wrap is counted alike in a position. -/
theorem setWidth_count_succ {count len : Half} (h : count.toNat < len.toNat) :
    (count + 1#16).setWidth 32 = count.setWidth 32 + 1#32 := by
  bv_omega

/-- A frame whose length is accepted is in PAYLOAD until RX_PCOUNT reaches RX_LEN, and then in CRCLO (R146, R147). -/
theorem rxPhase_of_accepted {s : State} (hst : s.rxSt = if s.rxPcount = s.rxLen then .crcLo else .payload)
    (hrem : s.rxSkiprem = 0#8) (hcount : s.rxPcount.toNat ≤ s.rxLen.toNat) (hcovered : RxPayloadCovered s)
    (hpos : s.rxPos = s.rxPstart + s.rxPcount.setWidth 32) (hmatch : s.rxMatch = false) : RxPhase s := by
  by_cases hwhole : s.rxPcount = s.rxLen
  · rw [if_pos hwhole] at hst
    simp only [RxPhase, hst]
    exact ⟨hrem, hwhole, hcovered, hpos, hmatch⟩
  · rw [if_neg hwhole] at hst
    have hopen : s.rxPcount.toNat < s.rxLen.toNat := by bv_omega
    simp only [RxPhase, hst]
    exact ⟨hrem, hopen, hcovered, hpos, hmatch⟩

/-- A push keeps what the invariants say of the receive framer, from each RX_ST into the next (R142..R150). -/
theorem rxPhase_rxTake (d : Octet) (s : State) (h : RxPhase s) : RxPhase (rxTake d s) := by
  cases hst : s.rxSt <;> simp only [RxPhase, hst] at h
  case skip =>
    obtain ⟨hrem, hcrc, hmatch⟩ := h
    rw [rxTake_skip d s hst]
    by_cases hlast : s.rxSkiprem - 1#8 = 0#8
    · simp [RxPhase, rxInSkip, hlast, hcrc, hmatch]
    · simp [RxPhase, rxInSkip, hlast, hst, hcrc, hmatch]
  case hunt =>
    obtain ⟨hrem, hcrc, hmatch⟩ := h
    rw [rxTake_hunt d s hst]
    by_cases hsync : d = Config.sync
    · simp [RxPhase, rxInHunt, hsync, hrem]
    · simp [RxPhase, rxInHunt, hsync, hst, hrem, hcrc, hmatch]
  case cmd =>
    obtain ⟨hrem, hcount, hcrc, hmatch⟩ := h
    rw [rxTake_cmd d s hst]
    exact ⟨hrem, hcount, by rw [rxInCmd, hcrc]; rfl, hmatch⟩
  case lenLo =>
    obtain ⟨hrem, hcount, hcrc, hmatch⟩ := h
    rw [rxTake_lenLo d s hst]
    exact ⟨hrem, hcount, by rw [rxInLenLo, hcrc, setWidth_octet, lo8_half]; rfl, hmatch⟩
  case lenHi =>
    obtain ⟨hrem, hcount, hcrc, hmatch⟩ := h
    have hheader : step16 s.rxCrc d = crc16Of [s.rxCmdid, lo8 s.rxLen, d] := by rw [hcrc]; rfl
    rw [rxTake_lenHi d s hst, rxInLenHi]
    split
    · simp [RxPhase, hrem, hheader, hmatch]
    · exact rxPhase_of_accepted (by simp only [hcount, eq_comm]) hrem (by simp [hcount])
        ⟨[], by simp [hcount], by simp [hheader]⟩ (by simp [hcount]) hmatch
  case payload =>
    obtain ⟨hrem, hopen, hcovered, hpos, hmatch⟩ := h
    have hcount : (s.rxPcount + 1#16).toNat ≤ s.rxLen.toNat := by bv_omega
    have hpos' : s.rxPos + 1#32 = s.rxPstart + (s.rxPcount + 1#16).setWidth 32 := by
      rw [hpos, setWidth_count_succ hopen, BitVec.add_assoc]
    rw [rxTake_payload d s hst]
    exact rxPhase_of_accepted (by simp only [rxInPayload, hst]) hrem hcount
      (rxPayloadCovered_rxInPayload d hopen hcovered) hpos' hmatch
  case crcLo =>
    obtain ⟨hrem, hwhole, hcrc, hpos, hmatch⟩ := h
    rw [rxTake_crcLo d s hst]
    exact ⟨hrem, hwhole, hcrc, congrArg (· + 1#32) hpos, hmatch⟩
  case crcHi =>
    obtain ⟨hrem, hwhole, hcrc, hpos, hmatch⟩ := h
    rw [rxTake_crcHi d s hst]
    exact ⟨hrem, hwhole, hcrc, by simp [rxInCrcHi, checksumsAgree]⟩
  case done =>
    obtain ⟨hrem, hwhole, hcrc, hmatch⟩ := h
    rw [rxTake_done d s hst, rxInDone]
    simp only [RxPhase, hst]
    exact ⟨hrem, hwhole, hcrc, hmatch⟩

/-! ## The transmit framer keeps its invariants -/

/-- A header that announces payload opens a frame with none of it taken (R170). -/
theorem txPhase_txOpen (id : Octet) (len : Half) (s : State) : TxPhase (txOpen id len s) := by
  rw [txOpen_eq]
  refine ⟨?_, fun hbusy => ?_⟩
  · have hpos : len ≠ 0#16 ↔ 0 < len.toNat := by bv_omega
    simp [hpos]
  · have hpositive : len ≠ 0#16 := of_decide_eq_true hbusy
    exact ⟨s.txout, [], id, len, by simp [hpositive], by simp, rfl⟩

/-- A payload octet with more to come extends the open frame, and the last one closes it (R171). -/
theorem txPhase_txPayload (d : Octet) (s : State) (hbusy : s.txBusy = true) (h : TxPhase s) :
    TxPhase (txPayload d s) := by
  obtain ⟨hrem, hopen⟩ := h
  have hpos : 0 < s.txRem.toNat := hrem.mp hbusy
  by_cases hlast : s.txRem = 1#16
  · simp [TxPhase, txPayload_last d s hlast]
  · have hmore : 0 < (s.txRem - 1#16).toNat := by bv_omega
    obtain ⟨before, payload, id, n, hout, hlength, hcrc⟩ := hopen hbusy
    rw [txPayload_more d s hlast]
    refine ⟨by simp only [hbusy, hmore], fun _ => ⟨before, payload ++ [d], id, n, ?_, ?_, ?_⟩⟩
    · simp only [hout, List.append_assoc]
    · simp only [List.length_append, List.length_singleton]
      bv_omega
    · rw [hcrc, ← crc16Of_snoc]
      rfl

/-! ## Every step keeps the invariants -/

section Kept

variable {i : Instr} {s t : State}

theorem exec_keeps_rxPhase (h : exec i s = .next t) (hinv : RxPhase s) : RxPhase t := by
  cases effect_of_exec h
  case rxReset => exact rxPhase_rxRearmed s
  case rxPush d => exact rxPhase_rxTake d s hinv
  case sreset => exact ⟨rfl, .inl rfl, rfl⟩
  case txStart id len _ => rw [txOpen_eq]; exact hinv
  case txData d _ => rw [txPayload_eq]; exact hinv
  all_goals exact hinv

/-- TX.RAW emits only while no frame is open (R172). -/
theorem exec_keeps_txPhase (h : exec i s = .next t) (hinv : TxPhase s) : TxPhase t := by
  cases effect_of_exec h
  case txStart id len _ => exact txPhase_txOpen id len s
  case txData d hbusy => exact txPhase_txPayload d s hbusy hinv
  case txRaw d hbusy =>
    obtain ⟨hrem, _⟩ := hinv
    exact ⟨hrem, fun hopen => absurd hopen (by simp [hbusy])⟩
  case txAbort => simp [TxPhase]
  case sreset => simp [TxPhase, State.reset]
  case rxPush d => rw [rxTake_frame]; exact hinv
  all_goals exact hinv

/-- Raising an error records a code: the one raised, or the one recorded before (R37). -/
theorem errRecorded_raise (s : State) {e : ErrCode} (he : e ≠ .none) (hinv : ErrRecorded s) :
    ErrRecorded (s.raise e) := by
  cases hset : s.err
  · simp [ErrRecorded, firstError, hset, he]
  · simp [ErrRecorded, firstError, hset, hinv.mp hset]

theorem exec_keeps_errRecorded (h : exec i s = .next t) (hinv : ErrRecorded s) : ErrRecorded t := by
  cases effect_of_exec h
  case clrerr => simp [ErrRecorded]
  case sreset => simp [ErrRecorded, State.reset]
  case rxPush d => rw [rxTake_frame]; exact hinv
  case txStart id len _ => rw [txOpen_eq]; exact hinv
  case txData d _ => rw [txPayload_eq]; exact hinv
  case txStartRaises => exact errRecorded_raise s (by decide) hinv
  case txDataRaises => exact errRecorded_raise s (by decide) hinv
  case txRawRaises => exact errRecorded_raise s (by decide) hinv
  all_goals exact hinv

/-- An operation keeps the invariants (R39), one part of the state at a time. -/
theorem exec_keeps_inv (h : exec i s = .next t) (hinv : Inv s) : Inv t := by
  obtain ⟨hrx, htx, herr⟩ := (inv_iff s).mp hinv
  exact (inv_iff t).mpr ⟨exec_keeps_rxPhase h hrx, exec_keeps_txPhase h htx, exec_keeps_errRecorded h herr⟩

/-- A length that an operation accepts is at most CFG_MAXLEN (R146): only a push leads out of LENHI to the payload or
the checksum. -/
theorem exec_accepted_length_le (h : exec i s = .next t) (hst : s.rxSt = .lenHi)
    (haccepted : t.rxSt = .payload ∨ t.rxSt = .crcLo) : t.rxLen.toNat ≤ s.cfgMaxlen.toNat := by
  cases effect_of_exec h
  case rxPush d =>
    by_contra habove
    obtain ⟨hhunt, _⟩ := rxTake_lenHi_rejected d s hst (by omega)
    simp [hhunt] at haccepted
  case rxReset =>
    by_cases hskip : s.cfgSkip = 0#8 <;> simp [rxRearmed, hskip] at haccepted
  case sreset => simp [State.reset] at haccepted
  all_goals simp [txOpen_eq, txPayload_eq, hst] at haccepted

end Kept

/-- A rejected access records an error and keeps both framers (R232). -/
theorem inv_reject (s : State) (a : AccessWord) (r : Reject) (hinv : Inv s) : Inv (s.reject a r) := by
  obtain ⟨hrx, htx, herr⟩ := (inv_iff s).mp hinv
  have hcode : rejectCode r ≠ .none := by cases r <;> decide
  rw [inv_iff]
  rcases State.reject_cases s a r with ⟨_, h⟩ | ⟨_, h⟩ <;> rw [h]
  · exact ⟨hrx, htx, errRecorded_raise s hcode herr⟩
  · exact ⟨hrx, htx, errRecorded_raise (s.returnRead 0x00000000#32) hcode herr⟩

theorem State.reject_rxSt (s : State) (a : AccessWord) (r : Reject) : (s.reject a r).rxSt = s.rxSt := by
  obtain ⟨rd, e, c, h⟩ := State.reject_frame s a r
  rw [h]

theorem perform_keeps_inv {a : AccessWord} {s t : State} (h : perform a s = .next t) (hinv : Inv s) : Inv t := by
  rcases perform_inv a s t h with ⟨i, _, hexec⟩ | ⟨r, _, rfl⟩
  · exact exec_keeps_inv hexec hinv
  · exact inv_reject s a r hinv

theorem perform_accepted_length_le {a : AccessWord} {s t : State} (h : perform a s = .next t)
    (hst : s.rxSt = .lenHi) (haccepted : t.rxSt = .payload ∨ t.rxSt = .crcLo) :
    t.rxLen.toNat ≤ s.cfgMaxlen.toNat := by
  rcases perform_inv a s t h with ⟨i, _, hexec⟩ | ⟨r, _, rfl⟩
  · exact exec_accepted_length_le hexec hst haccepted
  · simp [State.reject_rxSt, hst] at haccepted

/-- Taking an operation from the host's queue keeps the invariants: none speaks of the queue. -/
theorem inv_with_pending (s : State) (q : List AccessWord) (hinv : Inv s) : Inv { s with pending := q } :=
  (inv_iff { s with pending := q }).mpr ((inv_iff s).mp hinv)

/-- Settles O51: a step performs one access, or nothing. -/
theorem everyStepKeepsTheInvariants : Obligations.EveryStepKeepsTheInvariants := by
  intro s t hinv hstep
  rcases step_inv s t hstep with ⟨_, rfl⟩ | ⟨a, rest, _, hperform⟩
  · exact ⟨hinv, fun hst haccepted => by simp [hst] at haccepted⟩
  · exact ⟨perform_keeps_inv hperform (inv_with_pending s rest hinv),
      perform_accepted_length_le (s := { s with pending := rest }) hperform⟩

end Sys2Proof.Machine
end

section
/-! The family of 43_framer_tx: what TX.START, TX.DATA, TX.RAW and TX.ABORT emit and change while a frame is open and
while none is, and which of their words are legal (R170..R173). -/

namespace Sys2Proof.Machine

open Sys2Proof.Safety

/-! ## The transmit commands in and out of sequence -/

section Sequence

variable {s : State}

theorem exec_txStart_of_idle (id : Octet) (len : Half) (h : s.txBusy = false) :
    exec (.txStart id len) s = .next (txOpen id len s) := if_neg (Bool.eq_false_iff.mp h)

theorem exec_txStart_of_busy (id : Octet) (len : Half) (h : s.txBusy = true) :
    exec (.txStart id len) s = .next (s.raise .txSeq) := if_pos h

theorem exec_txData_of_busy (d : Octet) (h : s.txBusy = true) : exec (.txData d) s = .next (txPayload d s) := if_pos h

theorem exec_txData_of_idle (d : Octet) (h : s.txBusy = false) :
    exec (.txData d) s = .next (s.raise .txSeq) := if_neg (Bool.eq_false_iff.mp h)

theorem exec_txRaw_of_idle (d : Octet) (h : s.txBusy = false) :
    exec (.txRaw d) s = .next (s.emit [d]) := if_neg (Bool.eq_false_iff.mp h)

theorem exec_txRaw_of_busy (d : Octet) (h : s.txBusy = true) :
    exec (.txRaw d) s = .next (s.raise .txSeq) := if_pos h

end Sequence

/-! ## TX.START -/

/-- The command word of TX.START holds any ID and LEN (R73). -/
theorem commandRuns_txStart (id : Octet) (len : Half) : CommandRuns (wordH len id 0x30#8) (.txStart id len) := fun s =>
  perform_of_decode_ok (decode_encode_txStart id len) s

/-- A checksum is emitted low octet first (R54). -/
theorem checksumOctets_append (hi lo : Octet) : checksumOctets (hi ++ lo : Half) = [lo, hi] := by
  rw [checksumOctets, lo8_append, hi8_append]

/-- The header's CRC takes the length low octet first (R170). -/
theorem headerCrc_append (id hi lo : Octet) :
    headerCrc id (hi ++ lo) = step16 (step16 (step16 Config.crc16Seed id) lo) hi := by
  rw [headerCrc, lo8_append, hi8_append]

/-- A header that announces payload opens the frame (R170). -/
theorem txOpen_of_payload (id hi lo : Octet) (s : State) (h : (hi ++ lo : Half) ≠ 0#16) :
    txOpen id (hi ++ lo) s = { s with
      txout := s.txout ++ [Config.sync, id, lo, hi], txCrc := step16 (step16 (step16 Config.crc16Seed id) lo) hi
      txRem := hi ++ lo, txBusy := true } := by
  rw [txOpen_eq, headerCrc_append, lo8_append, hi8_append]
  simp [h]

/-- A frame without payload is emitted whole, and the framer stays idle (R170). -/
theorem txOpen_of_empty (id chi clo : Octet) (s : State) (h : headerCrc id 0#16 = chi ++ clo) :
    txOpen id 0#16 s = { s with
      txout := s.txout ++ [Config.sync, id, 0#8, 0#8, clo, chi], txCrc := chi ++ clo, txRem := 0#16
      txBusy := false } := by
  rw [txOpen_eq, h, checksumOctets_append]
  rfl

/-- The header of the handshake frame of R170. -/
theorem headerCrc_handshake : headerCrc 0x30#8 0#16 = 0x09#8 ++ 0x39#8 := by decide +kernel

/-- Settles O44: the length decides whether the header is followed by payload or by the checksum. -/
theorem txStartEmitsTheHeader : Obligations.TxStartEmitsTheHeader := by
  refine ⟨fun s id lo hi hidle hlen => ?payload, fun s id clo chi hidle hcrc => ?empty,
    fun s id len => exec_txStart_of_busy id len, commandRuns_txStart, fun s hidle => ?handshake⟩
  case payload =>
    have hpositive : (hi ++ lo : Half) ≠ 0#16 := fun h =>
      hlen ((append_eq_append_iff hi 0#8 lo 0#8).mp h).symm
    rw [exec_txStart_of_idle id _ hidle, txOpen_of_payload id hi lo s hpositive]
    rfl
  case empty =>
    rw [exec_txStart_of_idle id _ hidle, txOpen_of_empty id chi clo s hcrc]
    rfl
  case handshake =>
    have hframe := txOpen_of_empty 0x30#8 0x09#8 0x39#8 s headerCrc_handshake
    exact ⟨_, (exec_txStart_of_idle 0x30#8 0#16 hidle).trans (congrArg _ hframe), rfl, rfl, rfl⟩

/-! ## TX.DATA -/

/-- Settles O45: the last octet is the one that finds TX_REM at 1. -/
theorem txDataEmitsThePayload : Obligations.TxDataEmitsThePayload := by
  refine ⟨fun s d hbusy hmore => ?more, fun s d clo chi hbusy hlast hcrc => ?last, fun s d => exec_txData_of_idle d,
    commandRuns_instrB .txData, reservedBitsRaise_opcodeB .txData⟩
  case more =>
    have hrem : s.txRem ≠ 1#16 := by bv_omega
    rw [exec_txData_of_busy d hbusy, txPayload_more d s hrem]
  case last =>
    have hrem : s.txRem = 1#16 := BitVec.eq_of_toNat_eq hlast
    rw [exec_txData_of_busy d hbusy, txPayload_last d s hrem, hcrc, checksumOctets_append]

/-! ## TX.RAW -/

/-- Settles O46. -/
theorem txRawEmitsOneOctet : Obligations.TxRawEmitsOneOctet :=
  ⟨fun _ d => exec_txRaw_of_idle d, fun _ d => exec_txRaw_of_busy d, commandRuns_instrB .txRaw,
    reservedBitsRaise_opcodeB .txRaw⟩

/-! ## TX.ABORT -/

theorem exec_txAbort (s : State) : exec .txAbort s = .next { s with txBusy := false, txRem := 0#16 } := rfl

/-- While no frame is open no payload octet is expected (R39). -/
theorem txRem_eq_zero_of_idle {s : State} (hinv : Inv s) (hidle : s.txBusy = false) : s.txRem = 0#16 := by
  have hnone : ¬ 0 < s.txRem.toNat := mt hinv.busyIffRemaining.mpr (Bool.eq_false_iff.mp hidle)
  bv_omega

/-- Settles O47: with no frame open TX_BUSY and TX_REM are 0 already. -/
theorem txAbortAbandonsTheFrame : Obligations.TxAbortAbandonsTheFrame := by
  refine ⟨exec_txAbort, fun s hinv hidle => ?_, commandRuns_instrN .txAbort, reservedBitsRaise_opcodeN .txAbort⟩
  rw [exec_txAbort, ← txRem_eq_zero_of_idle hinv hidle, ← hidle]

end Sys2Proof.Machine
end

section
/-! The family of 44_bus_control: the control commands and the register writes (R190..R194), the image that each read
returns (R195..R208), and that a read has no other effect (R209). -/

namespace Sys2Proof.Machine

open Sys2Proof.Safety

/-! ## Reads -/

/-- A read returns the image of the register it names (R195..R208). -/
theorem exec_instrRd (r : RegName) (s : State) : exec (instrRd r) s = .next (s.returnRead (image s r)) := by
  cases r <;> rfl

/-- A read access performs the read of the register at its offset (R73). -/
theorem readRuns_instrRd (r : RegName) : ReadRuns (offset r) (instrRd r) := fun s w =>
  perform_of_decode_ok (decode_read r w) s

/-- No register shows the RDATA already returned. -/
@[simp] theorem image_returnRead (s : State) (v : Word) (r : RegName) : image (s.returnRead v) r = image s r := by
  cases r <;> rfl

/-- For a read the checks of R235 come down to its offset (R231). -/
theorem firstFailingCheck_of_read (s : State) {a : AccessWord} (hread : isWrite a = false) :
    firstFailingCheck s a = if offsetOf a % 4 ≠ 0 ∨ 0x34 < offsetOf a then .badAccess else .none := by
  by_cases haligned : offsetOf a % 4 = 0 <;> simp [firstFailingCheck, misaligned, offsetRefused, hread, haligned]

/-- A read that passes the checks is the read of a register. -/
theorem decode_of_passing_read {s : State} {a : AccessWord} (hread : isWrite a = false)
    (hcheck : firstFailingCheck s a = .none) : ∃ r, decode a = .ok (instrRd r) := by
  rw [isWrite_eq] at hread
  rw [firstFailingCheck_eq] at hcheck
  cases hdecode : decode a with
  | error r => rw [hdecode] at hcheck; cases r <;> cases hcheck
  | ok i =>
    obtain ⟨r, rfl⟩ := exists_instrRd_of_read ((accWE_encode_of_decode hdecode).trans hread)
    exact ⟨r, rfl⟩

/-- A read that fails a check returns 0 and raises (R53, R232). -/
theorem perform_of_failing_read {s : State} {a : AccessWord} (hread : isWrite a = false)
    (hcheck : firstFailingCheck s a ≠ .none) :
    perform a s = .next ((s.returnRead 0x00000000#32).raise (firstFailingCheck s a)) := by
  rw [isWrite_eq] at hread
  rw [firstFailingCheck_eq] at hcheck ⊢
  cases hdecode : decode a with
  | error r => simp [perform, hdecode, State.reject, hread, decodedError]
  | ok i =>
    obtain ⟨r, rfl⟩ := exists_instrRd_of_read ((accWE_encode_of_decode hdecode).trans hread)
    simp [hdecode, decodedError] at hcheck

/-- Settles O22: an access at an aligned mapped offset reads a register, and the RDATA it leaves is in no register's
image. -/
theorem readsHaveNoSideEffect : Obligations.ReadsHaveNoSideEffect := by
  intro s a hread
  refine ⟨fun haligned hmapped => ?mapped, fun hoffset => ?refused⟩
  case mapped =>
    have hcheck : firstFailingCheck s a = .none :=
      (firstFailingCheck_of_read s hread).trans (if_neg (by omega))
    obtain ⟨r, hdecode⟩ := decode_of_passing_read hread hcheck
    have hreturns (u : State) : step (u.present a) = .next (u.returnRead (image u r)) := by
      rw [step_present, perform_of_decode_ok hdecode, exec_instrRd]
    have hagain := hreturns (s.returnRead (image s r))
    rw [image_returnRead] at hagain
    exact ⟨image s r, hreturns s, hagain⟩
  case refused =>
    have hcheck : firstFailingCheck s a = .badAccess :=
      (firstFailingCheck_of_read s hread).trans (if_pos hoffset)
    have hperform := perform_of_failing_read (s := s) hread (by simp [hcheck])
    rwa [hcheck] at hperform

/-! ## The fields of STATUS -/

/-- The fields of a word built like STATUS (R25). -/
theorem statusFields (err : BitVec 1) (z28 : BitVec 3) (code : BitVec 4) (z10 : BitVec 14) (lenerr agree : BitVec 1)
    (z5 : BitVec 3) (busy : BitVec 1) (st : BitVec 4) :
    let w : Word := err ++ z28 ++ code ++ z10 ++ lenerr ++ agree ++ z5 ++ busy ++ st
    w.extractLsb' 0 4 = st ∧ w.extractLsb' 4 1 = busy ∧ w.extractLsb' 5 3 = z5 ∧ w.extractLsb' 8 1 = agree ∧
    w.extractLsb' 9 1 = lenerr ∧ w.extractLsb' 10 14 = z10 ∧ w.extractLsb' 24 4 = code ∧ w.extractLsb' 28 3 = z28 ∧
    w.extractLsb' 31 1 = err := by
  simp (disch := decide) only [BitVec.extractLsb'_append_eq_of_le, BitVec.extractLsb'_append_eq_right, Nat.reduceSub,
    BitVec.extractLsb'_eq_self, and_self]

theorem getLsbD_of_extract_flagBit {w n : Nat} {x : BitVec w} {b : Bool} (h : x.extractLsb' n 1 = flagBit b) :
    x.getLsbD n = b := by
  simpa [flagBit] using congrArg (BitVec.getLsbD · 0) h

/-- STATUS, field by field (R198). -/
theorem statusImage_fields (s : State) :
    (statusImage s).extractLsb' 0 4 = s.rxSt.code ∧ (statusImage s).getLsbD 4 = s.txBusy ∧
    (statusImage s).extractLsb' 5 3 = 0#3 ∧ (statusImage s).getLsbD 8 = s.rxMatch ∧
    (statusImage s).getLsbD 9 = s.rxLenerr ∧ (statusImage s).extractLsb' 10 14 = 0#14 ∧
    (statusImage s).extractLsb' 24 4 = s.errcode.code ∧ (statusImage s).extractLsb' 28 3 = 0#3 ∧
    (statusImage s).getLsbD 31 = s.err := by
  obtain ⟨hst, hbusy, hz5, hmatch, hlenerr, hz10, hcode, hz28, herr⟩ :=
    statusFields (flagBit s.err) 0#3 s.errcode.code 0#14 (flagBit s.rxLenerr) (flagBit s.rxMatch) 0#3
      (flagBit s.txBusy) s.rxSt.code
  exact ⟨hst, getLsbD_of_extract_flagBit hbusy, hz5, getLsbD_of_extract_flagBit hmatch,
    getLsbD_of_extract_flagBit hlenerr, hz10, hcode, hz28, getLsbD_of_extract_flagBit herr⟩

/-- STATUS[31:24] shows the error record alone (R25). -/
theorem statusImage_errorOctet (s : State) :
    (statusImage s).extractLsb' 24 8 = flagBit s.err ++ 0#3 ++ s.errcode.code := by
  simp (disch := decide) only [statusImage, BitVec.extractLsb'_append_eq_of_le, Nat.reduceSub,
    BitVec.extractLsb'_eq_self]

/-! ## The register images -/

/-- A 16-bit field shown in a register has 16 zeros above it (R22). -/
theorem setWidth_half (h : Half) : h.setWidth 32 = 0#16 ++ h := BitVec.setWidth_eq_append (by decide)

/-- Settles O20: the images are those of the registers, and CRC16 is shown with 16 zeros above it. -/
theorem controlAndCrcReadsReturnTheirImages : Obligations.ControlAndCrcReadsReturnTheirImages := by
  refine ⟨⟨readRuns_instrRd .cmd, exec_instrRd .cmd⟩, ⟨readRuns_instrRd .data, exec_instrRd .data⟩,
    ⟨readRuns_instrRd .config, exec_instrRd .config⟩, ⟨readRuns_instrRd .status, fun s => ?status⟩,
    ⟨readRuns_instrRd .crc16, fun s => ?crc16⟩, ⟨readRuns_instrRd .crc32, exec_instrRd .crc32⟩,
    readRuns_instrRd .crc32Result, exec_instrRd .crc32Result⟩
  case status => exact ⟨statusImage s, exec_instrRd .status s, statusImage_fields s⟩
  case crc16 => rw [← setWidth_half]; exact exec_instrRd .crc16 s

/-- Settles O21. -/
theorem framerReadsReturnTheirImages : Obligations.FramerReadsReturnTheirImages :=
  ⟨⟨readRuns_instrRd .rxHdr, exec_instrRd .rxHdr⟩, ⟨readRuns_instrRd .rxChk, exec_instrRd .rxChk⟩,
    ⟨readRuns_instrRd .rxCnt, exec_instrRd .rxCnt⟩, ⟨readRuns_instrRd .rxResult, exec_instrRd .rxResult⟩,
    ⟨readRuns_instrRd .txInfo, exec_instrRd .txInfo⟩, ⟨readRuns_instrRd .rxPos, exec_instrRd .rxPos⟩,
    readRuns_instrRd .rxPstart, exec_instrRd .rxPstart⟩

/-! ## The control commands -/

/-- Settles O15. -/
theorem nopChangesNothing : Obligations.NopChangesNothing :=
  ⟨fun _ => rfl, commandRuns_instrN .nop, reservedBitsRaise_opcodeN .nop⟩

/-- Settles O16: STATUS[31:24] shows the cleared record. -/
theorem clrerrClearsOnlyTheRecord : Obligations.ClrerrClearsOnlyTheRecord := by
  refine ⟨fun _ => rfl, commandRuns_instrN .clrerr, reservedBitsRaise_opcodeN .clrerr, ?_⟩
  rintro s _ ⟨rfl⟩
  have hclear : flagBit false ++ 0#3 ++ ErrCode.none.code = 0x00#8 := by decide
  exact (statusImage_errorOctet s.clearError).trans hclear

/-- Settles O17: the registers read their reset images. -/
theorem sresetEqualsPowerOnReset : Obligations.SresetEqualsPowerOnReset := by
  refine ⟨fun _ => rfl, commandRuns_instrN .sreset, reservedBitsRaise_opcodeN .sreset, ?_⟩
  rintro s _ ⟨rfl⟩
  exact ⟨(image_resetElements s .status).trans rfl, (image_resetElements s .config).trans rfl, rfl⟩

/-! ## The register writes -/

/-- Settles O18: the offsets 0x05 to 0x07 are misaligned (R53). -/
theorem wrDataStoresTheWord : Obligations.WrDataStoresTheWord := by
  refine ⟨fun s v => exec_wrData v s, fun s v => perform_of_decode_ok (decode_encode_wrData v) s, ?readBack,
    fun s off v hlow hhigh => ?misaligned⟩
  case readBack =>
    rintro s _ v ⟨rfl⟩
    exact ⟨exec_instrRd .data (s.withData v), exec_wrData v (s.withData v)⟩
  case misaligned =>
    have hoffsets : ∀ o : Octet, 0x05 ≤ o.toNat → o.toNat ≤ 0x07 → aligned o = false := by decide
    have hdecode : decode (accWrite off v) = .error .misaligned := by
      simp [decode, hoffsets off hlow hhigh]
    exact step_present_of_decode_error hdecode (accWE_accWrite off v) s

theorem exec_wrConfig (v : Word) (s : State) :
    exec (.wrConfig v) s = .next { s with cfgSkip := skipField v, cfgMaxlen := maxlenField v } := rfl

/-- Bits 15:8 of CONFIG read as 0, and the others are its fields (R24). -/
theorem config_fields_eq_mask (v : Word) :
    (maxlenField v ++ 0x00#8 ++ skipField v : BitVec 32) = v &&& 0xFFFF00FF#32 := by
  have hparts (maxlen : Half) (ign skip : Octet) :
      (maxlen ++ ign ++ skip) &&& (0xFFFF#16 ++ 0x00#8 ++ 0xFF#8) = maxlen ++ 0x00#8 ++ skip := by
    rw [append_and_append_eq_iff, append_and_append_eq_iff]
    exact ⟨⟨BitVec.and_allOnes, BitVec.and_zero⟩, octet_and_ones skip⟩
  conv_rhs => rw [cmd_eta v]
  exact (hparts (cmdLen v) (cmdD v) (cmdOp v)).symm

/-- Settles O19: the two fields lie at the places of LEN and OP in a command word. -/
theorem wrConfigStoresTheFields : Obligations.WrConfigStoresTheFields := by
  refine ⟨fun s skip ign maxlen => ?fields, fun s v => perform_of_decode_ok (decode_encode_wrConfig v) s, ?readBack⟩
  case fields =>
    have hskip : skipField (maxlen ++ ign ++ skip) = skip := cmdOp_wordH maxlen ign skip
    have hmaxlen : maxlenField (maxlen ++ ign ++ skip) = maxlen := cmdLen_wordH maxlen ign skip
    rw [exec_wrConfig, hskip, hmaxlen]
  case readBack =>
    rintro s _ v ⟨rfl⟩
    refine ⟨?_, rfl⟩
    rw [← config_fields_eq_mask]
    exact exec_instrRd .config _

end Sys2Proof.Machine
end

section
/-! The family of 60_exceptions: every step answers a next state (R232, R267), an access that fails a check of R235 is
exactly a raise of that check's error (R231..R234), and the first check that fails decides the error (R235). -/

namespace Sys2Proof.Machine

open Sys2Proof.Safety

/-! ## No step faults or is refused -/

/-- No operation stops the block: a transmit command either acts or raises TX_SEQ, and any other has one way to end. -/
theorem exec_next (i : Instr) (s : State) : ∃ t, exec i s = .next t := by
  cases i
  case txStart id len =>
    cases hbusy : s.txBusy
    · exact ⟨_, exec_txStart_of_idle id len hbusy⟩
    · exact ⟨_, exec_txStart_of_busy id len hbusy⟩
  case txData d =>
    cases hbusy : s.txBusy
    · exact ⟨_, exec_txData_of_idle d hbusy⟩
    · exact ⟨_, exec_txData_of_busy d hbusy⟩
  case txRaw d =>
    cases hbusy : s.txBusy
    · exact ⟨_, exec_txRaw_of_idle d hbusy⟩
    · exact ⟨_, exec_txRaw_of_busy d hbusy⟩
  all_goals exact ⟨_, rfl⟩

theorem perform_of_decode_error {a : AccessWord} {r : Reject} (h : decode a = .error r) (s : State) :
    perform a s = .next (s.reject a r) := by
  simp [perform, h]

/-- No access stops the block: a rejected one raises (R232). -/
theorem perform_next (a : AccessWord) (s : State) : ∃ t, perform a s = .next t := by
  cases hdecode : decode a with
  | ok i => rw [perform_of_decode_ok hdecode]; exact exec_next i s
  | error r => exact ⟨_, perform_of_decode_error hdecode s⟩

/-- Settles O7: a step performs one access, or nothing. -/
theorem everyStepAnswersNext : Obligations.EveryStepAnswersNext := by
  intro s
  cases hpending : s.pending with
  | nil => exact ⟨s, step_nil s hpending⟩
  | cons a rest => rw [step_cons s a rest hpending]; exact perform_next a _

/-! ## A failed check only raises -/

theorem exec_of_outOfSequence {i : Instr} {s : State} (h : outOfSequence s i = true) :
    exec i s = .next (s.raise .txSeq) := by
  cases i
  case txStart id len => exact exec_txStart_of_busy id len h
  case txData d => exact exec_txData_of_idle d (by simpa [outOfSequence] using h)
  case txRaw d => exact exec_txRaw_of_busy d h
  all_goals cases h

/-- A write that fails a check raises: the decoder rejects it, or its command is out of sequence (R232, R234). -/
theorem perform_of_failing_write {s : State} {a : AccessWord} (hwrite : isWrite a = true)
    (hcheck : firstFailingCheck s a ≠ .none) : perform a s = .next (s.raise (firstFailingCheck s a)) := by
  rw [isWrite_eq] at hwrite
  rw [firstFailingCheck_eq] at hcheck ⊢
  cases hdecode : decode a with
  | error r => simp [perform_of_decode_error hdecode, State.reject, hwrite, decodedError]
  | ok i =>
    have hseq : outOfSequence s i = true := by simpa [hdecode, decodedError] using hcheck
    rw [perform_of_decode_ok hdecode, exec_of_outOfSequence hseq]
    simp [decodedError, hseq]

/-- Settles O12: a failing write is a raise, and a failing read is a raise after returning 0. -/
theorem failingOperationOnlyRaises : Obligations.FailingOperationOnlyRaises := by
  intro s a hcheck
  rw [step_present]
  cases haccess : isWrite a
  · rw [perform_of_failing_read haccess hcheck]; rfl
  · rw [perform_of_failing_write haccess hcheck]; rfl

/-! ## The first failing check -/

/-- An access that fails no check is an operation in sequence. -/
theorem decode_of_passing {s : State} {a : AccessWord} (hcheck : firstFailingCheck s a = .none) :
    ∃ i, decode a = .ok i ∧ outOfSequence s i = false := by
  rw [firstFailingCheck_eq] at hcheck
  cases hdecode : decode a with
  | error r => rw [hdecode] at hcheck; cases r <;> cases hcheck
  | ok i => exact ⟨i, rfl, by simpa [hdecode, decodedError] using hcheck⟩

/-- An operation in sequence keeps a clear error record clear. -/
theorem exec_keeps_clear {i : Instr} {s t : State} (h : exec i s = .next t) (hseq : outOfSequence s i = false)
    (herr : s.err = false) (hcode : s.errcode = .none) : t.err = false ∧ t.errcode = .none := by
  have hclear : t.err = false := by simpa [hseq] using exec_err_set h herr
  have hrecorded : ErrRecorded t := exec_keeps_errRecorded h (by simp [ErrRecorded, herr, hcode])
  exact ⟨hclear, by simpa [ErrRecorded, hclear] using hrecorded⟩

/-- Settles O11: with a clear record, a failing access records its check's error and a passing one records none. -/
theorem firstFailingCheckDecidesTheError : Obligations.FirstFailingCheckDecidesTheError := by
  intro s a herr hcode
  by_cases hcheck : firstFailingCheck s a = .none
  · obtain ⟨i, hdecode, hseq⟩ := decode_of_passing hcheck
    obtain ⟨t, hexec⟩ := exec_next i s
    obtain ⟨herr', hcode'⟩ := exec_keeps_clear hexec hseq herr hcode
    exact ⟨t, (perform_of_decode_ok hdecode s).trans hexec, by rw [hcode', hcheck], by simp [herr', hcheck]⟩
  · exact ⟨_, failingOperationOnlyRaises s a hcheck, by simp [herr], by simp [hcheck]⟩

/-! ## TX_SEQ -/

/-- Settles O13. -/
theorem transmitOutOfSequenceRaises : Obligations.TransmitOutOfSequenceRaises := fun s d id len =>
  ⟨exec_txStart_of_busy id len, exec_txData_of_idle d, exec_txRaw_of_busy d, _, exec_txAbort s, rfl, rfl⟩

end Sys2Proof.Machine
end

section
/-! The family of 70_reset_and_hazards: the state and the register images after power-on reset and after SRESET (R260). -/

namespace Sys2Proof.Machine

/-! ## The two ways to reset -/

theorem exec_sreset (s : State) : exec .sreset s = .next s.resetElements := rfl

/-- Power-on is the reset of the elements with nothing emitted, read or supplied, so both ways to reset are one case. -/
theorem eq_resetElements_of_reset {t : State} (h : t = State.reset ∨ ∃ s, exec .sreset s = .next t) :
    ∃ s : State, t = s.resetElements := by
  rcases h with hpowerOn | ⟨s, hsreset⟩
  · exact ⟨State.reset, hpowerOn⟩
  · rw [exec_sreset] at hsreset
    injection hsreset with hsreset
    exact ⟨s, hsreset.symm⟩

/-! ## The register images -/

/-- The table of reset images of R260. -/
def resetImage : RegName → Word
  | .config | .rxChk | .txInfo => 0xFFFF0000#32
  | .status => 0x00000001#32
  | .crc16 => 0x0000FFFF#32
  | .crc32 => 0xFFFFFFFF#32
  | .cmd | .data | .crc32Result | .rxHdr | .rxCnt | .rxResult | .rxPos | .rxPstart => 0x00000000#32

theorem image_reset (r : RegName) : image State.reset r = resetImage r := by
  cases r <;> rfl

theorem image_resetElements_eq_resetImage (s : State) (r : RegName) : image s.resetElements r = resetImage r :=
  (image_resetElements s r).trans (image_reset r)

/-- Settles O14: the 23 elements are those of the reset state, and the 14 images are R260's table. -/
theorem resetStateAndRegisterImages : Obligations.ResetStateAndRegisterImages := by
  refine ⟨fun s => ⟨_, exec_sreset s, s.resetElements_txout⟩, rfl, fun t hreset => ?_⟩
  obtain ⟨s, rfl⟩ := eq_resetElements_of_reset hreset
  have himage := image_resetElements_eq_resetImage s
  exact ⟨rfl, rfl, rfl, rfl, rfl, rfl, rfl, rfl, rfl, rfl, rfl, rfl, rfl, rfl, rfl, rfl, rfl, rfl, rfl, rfl, rfl, rfl, rfl,
    himage .cmd, himage .data, himage .config, himage .status, himage .crc16, himage .crc32, himage .crc32Result,
    himage .rxHdr, himage .rxChk, himage .rxCnt, himage .rxResult, himage .txInfo, himage .rxPos, himage .rxPstart⟩

end Sys2Proof.Machine
end
